-- ==== Sys2Proof/Word.lean ====
section
/-! DEFINITION. The words of the two serial links: bytes and the 16-bit and 32-bit words made of them (chapter 10). -/
namespace Sys2Proof

/-- One byte of a frame (10.1). -/
abbrev Byte := BitVec 8

/-- A 16-bit word: a CRC (R171), an alarm word (10.7), a scan number (R2). -/
abbrev Word16 := BitVec 16

/-- A 32-bit word: an interval number (2.3, R58). -/
abbrev Word32 := BitVec 32

end Sys2Proof
end

