-- ==== Sys2Proof/Syntax.lean ====
section
/-! DEFINITION. The names of the plant's items and the commands of the part: one constructor of `Instr` for each row of
spec/opcode_table.json. A request's arguments stand in the frame at the head of the host queue (R172, R174), so its
constructor carries none (log entry 2). -/
namespace Sys2Proof

/-- The two serial links (00_scope 1.3). -/
inductive Link where
  | host | field
deriving DecidableEq, Repr

/-- The charge side (compression) and the discharge side (expansion). -/
inductive Side where
  | charge | discharge
deriving DecidableEq, Repr

/-- The seven trains (00_scope 1.1). -/
inductive Train where
  | c1 | c2 | c3 | c4 | e1 | e2 | e3
deriving DecidableEq, Repr

/-- The six heat store modules H1 to H6. -/
inductive HeatModule where
  | h1 | h2 | h3 | h4 | h5 | h6
deriving DecidableEq, Repr

/-- The three cavern pressure transducers P1 to P3. -/
inductive Transducer where
  | p1 | p2 | p3
deriving DecidableEq, Repr

/-- The four amendment groups (4.5). -/
inductive GroupId where
  | g1 | g2 | g3 | g4
deriving DecidableEq, Repr

/-- The 22 protection entries, in the order of the table of 8.1. -/
inductive ProtEntry where
  | cavHigh | cavLow | cavRiseRate | cavFallRate | pressSensors | reheatLow | noHeatSink
  | moduleHot (m : HeatModule)
  | fieldLoss | esd
  | trainFault (t : Train)
deriving DecidableEq, Repr

/-- The commands: one constructor for each row of spec/opcode_table.json, in the table's order. -/
inductive Instr where
  | powerOn
  | resetInFall
  | resetInRise
  /-- The new level of ESD_IN, `true` for high. -/
  | esdInChange (high : Bool)
  /-- Bytes that arrive on a link with no gap among them. -/
  | linkFrameRx (l : Link) (bytes : List Byte)
  /-- A gap over the link's limit has passed; `bytes` are the byte that ended it, if one has come, and what followed. -/
  | frameGapTimeout (l : Link) (bytes : List Byte)
  | fieldFrameDiscard
  | scan
  | sensorSuspect (p : Transducer)
  | transducerReturnGood (p : Transducer)
  | windowExit (t : Train)
  | balanceUpdate
  | mark
  | fieldLossBegin
  | boundary
  | rejoinRampEnd
  | undelivered (sd : Side)
  | startTimeout (t : Train)
  | stopTimeout (t : Train)
  | warmHoldExpiry (t : Train)
  | stopNewest (sd : Side)
  | tripCountClear (e : ProtEntry)
  | protDelayExpiry (e : ProtEntry)
  | protRecoveryDelayExpiry (e : ProtEntry)
  | projectionRunComplete
  /-- The CRC formed over the values read back from the image (R168, step 2). -/
  | configSaveComplete (crcRead : Word16)
  | hostBadKind
  | statusRead
  | measRead
  | heatRead
  | trainRead
  | bookRead
  | slotRead
  | dispatchRead
  | protRead
  | tripListRead
  | mapRead
  | linkRead
  | entryPut
  | entryDrop
  | groupOpen
  | groupAdd
  | groupLaunch
  | groupDiscard
  | reserveCall
  | manualTarget
  | trainStart
  | trainStop
  | trainLock
  | trainUnlock
  | trainReset
  | moduleService
  | heatPreset
  | protRecover
  | tripListClear
  | alarmClear
  | alarmMaskSet
  | modeSet
  | timeSet
  | configPut
  | mapPut
  | configSave
  /-- The byte 0xC3 meets the receiver, with the two bytes of LEN, high byte first. -/
  | sofDetected (l : Link) (lenHigh lenLow : Byte)
  | powerLoss
deriving DecidableEq, Repr

end Sys2Proof
end

