-- ==== Sys2Proof/Decode.lean ====
section
/-! DEFINITION. No row of spec/opcode_table.json gives bits: a command is a step of the part, not a word. So no word
spells one (log entry 4). Frames on the links are read by the receivers and the request bodies by their owners. -/
namespace Sys2Proof

/-- The command a word spells by the table's bits: the table gives none to any row. -/
def decodeTableWord (_nbits _w : Nat) : Option Instr := none

end Sys2Proof
end

