-- ==== Sys2Proof/Config.lean ====
section
/-! DEFINITION. What the part is configured by: records of one value for each link, side, train, module, transducer,
group and protection entry; the working set of 9.1 (every setting and both maps), each value as the integer CONFIG_PUT
writes (10.4.1); the names of the settings; and the free values the manual leaves open. -/
namespace Sys2Proof

variable {α : Type}

/-- One value for each link. -/
structure PerLink (α : Type) where
  (host field : α)
deriving DecidableEq, Repr

/-- The value of one item. -/
def PerLink.get (x : PerLink α) : Link → α
  | .host => x.host
  | .field => x.field

/-- The record with one item's value replaced. -/
def PerLink.set (x : PerLink α) (i : Link) (a : α) : PerLink α :=
  match i with
  | .host => { x with host := a }
  | .field => { x with field := a }

/-- The record whose items a function gives. -/
def PerLink.ofFn (f : Link → α) : PerLink α := ⟨f .host, f .field⟩

/-- Every item, in name order (R176). -/
def Link.all : List Link := [.host, .field]

/-- One value for each side, charge first (R176). -/
structure PerSide (α : Type) where
  (charge discharge : α)
deriving DecidableEq, Repr

/-- The value of one item. -/
def PerSide.get (x : PerSide α) : Side → α
  | .charge => x.charge
  | .discharge => x.discharge

/-- The record with one item's value replaced. -/
def PerSide.set (x : PerSide α) (i : Side) (a : α) : PerSide α :=
  match i with
  | .charge => { x with charge := a }
  | .discharge => { x with discharge := a }

/-- The record whose items a function gives. -/
def PerSide.ofFn (f : Side → α) : PerSide α := ⟨f .charge, f .discharge⟩

/-- Every item, in name order (R176). -/
def Side.all : List Side := [.charge, .discharge]

/-- One value for each train, C1 to C4 then E1 to E3. -/
structure PerTrain (α : Type) where
  (c1 c2 c3 c4 e1 e2 e3 : α)
deriving DecidableEq, Repr

/-- The value of one item. -/
def PerTrain.get (x : PerTrain α) : Train → α
  | .c1 => x.c1
  | .c2 => x.c2
  | .c3 => x.c3
  | .c4 => x.c4
  | .e1 => x.e1
  | .e2 => x.e2
  | .e3 => x.e3

/-- The record with one item's value replaced. -/
def PerTrain.set (x : PerTrain α) (i : Train) (a : α) : PerTrain α :=
  match i with
  | .c1 => { x with c1 := a }
  | .c2 => { x with c2 := a }
  | .c3 => { x with c3 := a }
  | .c4 => { x with c4 := a }
  | .e1 => { x with e1 := a }
  | .e2 => { x with e2 := a }
  | .e3 => { x with e3 := a }

/-- The record whose items a function gives. -/
def PerTrain.ofFn (f : Train → α) : PerTrain α := ⟨f .c1, f .c2, f .c3, f .c4, f .e1, f .e2, f .e3⟩

/-- Every item, in name order (R176). -/
def Train.all : List Train := [.c1, .c2, .c3, .c4, .e1, .e2, .e3]

/-- One value for each heat store module. -/
structure PerModule (α : Type) where
  (h1 h2 h3 h4 h5 h6 : α)
deriving DecidableEq, Repr

/-- The value of one item. -/
def PerModule.get (x : PerModule α) : HeatModule → α
  | .h1 => x.h1
  | .h2 => x.h2
  | .h3 => x.h3
  | .h4 => x.h4
  | .h5 => x.h5
  | .h6 => x.h6

/-- The record with one item's value replaced. -/
def PerModule.set (x : PerModule α) (i : HeatModule) (a : α) : PerModule α :=
  match i with
  | .h1 => { x with h1 := a }
  | .h2 => { x with h2 := a }
  | .h3 => { x with h3 := a }
  | .h4 => { x with h4 := a }
  | .h5 => { x with h5 := a }
  | .h6 => { x with h6 := a }

/-- The record whose items a function gives. -/
def PerModule.ofFn (f : HeatModule → α) : PerModule α := ⟨f .h1, f .h2, f .h3, f .h4, f .h5, f .h6⟩

/-- Every item, in name order (R176). -/
def HeatModule.all : List HeatModule := [.h1, .h2, .h3, .h4, .h5, .h6]

/-- One value for each pressure transducer. -/
structure PerTransducer (α : Type) where
  (p1 p2 p3 : α)
deriving DecidableEq, Repr

/-- The value of one item. -/
def PerTransducer.get (x : PerTransducer α) : Transducer → α
  | .p1 => x.p1
  | .p2 => x.p2
  | .p3 => x.p3

/-- The record with one item's value replaced. -/
def PerTransducer.set (x : PerTransducer α) (i : Transducer) (a : α) : PerTransducer α :=
  match i with
  | .p1 => { x with p1 := a }
  | .p2 => { x with p2 := a }
  | .p3 => { x with p3 := a }

/-- The record whose items a function gives. -/
def PerTransducer.ofFn (f : Transducer → α) : PerTransducer α := ⟨f .p1, f .p2, f .p3⟩

/-- Every item, in name order (R176). -/
def Transducer.all : List Transducer := [.p1, .p2, .p3]

/-- One value for each amendment group. -/
structure PerGroup (α : Type) where
  (g1 g2 g3 g4 : α)
deriving DecidableEq, Repr

/-- The value of one item. -/
def PerGroup.get (x : PerGroup α) : GroupId → α
  | .g1 => x.g1
  | .g2 => x.g2
  | .g3 => x.g3
  | .g4 => x.g4

/-- The record with one item's value replaced. -/
def PerGroup.set (x : PerGroup α) (i : GroupId) (a : α) : PerGroup α :=
  match i with
  | .g1 => { x with g1 := a }
  | .g2 => { x with g2 := a }
  | .g3 => { x with g3 := a }
  | .g4 => { x with g4 := a }

/-- The record whose items a function gives. -/
def PerGroup.ofFn (f : GroupId → α) : PerGroup α := ⟨f .g1, f .g2, f .g3, f .g4⟩

/-- Every item, in name order (R176). -/
def GroupId.all : List GroupId := [.g1, .g2, .g3, .g4]

/-- One value for each protection entry (8.1). -/
structure PerEntry (α : Type) where
  (cavHigh cavLow cavRiseRate cavFallRate pressSensors reheatLow noHeatSink : α)
  moduleHot : PerModule α
  (fieldLoss esd : α)
  trainFault : PerTrain α
deriving DecidableEq, Repr

/-- The value of one entry. -/
def PerEntry.get (x : PerEntry α) : ProtEntry → α
  | .cavHigh => x.cavHigh
  | .cavLow => x.cavLow
  | .cavRiseRate => x.cavRiseRate
  | .cavFallRate => x.cavFallRate
  | .pressSensors => x.pressSensors
  | .reheatLow => x.reheatLow
  | .noHeatSink => x.noHeatSink
  | .moduleHot m => x.moduleHot.get m
  | .fieldLoss => x.fieldLoss
  | .esd => x.esd
  | .trainFault t => x.trainFault.get t

/-- The record with one entry's value replaced. -/
def PerEntry.set (x : PerEntry α) (e : ProtEntry) (a : α) : PerEntry α :=
  match e with
  | .cavHigh => { x with cavHigh := a }
  | .cavLow => { x with cavLow := a }
  | .cavRiseRate => { x with cavRiseRate := a }
  | .cavFallRate => { x with cavFallRate := a }
  | .pressSensors => { x with pressSensors := a }
  | .reheatLow => { x with reheatLow := a }
  | .noHeatSink => { x with noHeatSink := a }
  | .moduleHot m => { x with moduleHot := x.moduleHot.set m a }
  | .fieldLoss => { x with fieldLoss := a }
  | .esd => { x with esd := a }
  | .trainFault t => { x with trainFault := x.trainFault.set t a }

/-- The record whose entries a function gives. -/
def PerEntry.ofFn (f : ProtEntry → α) : PerEntry α :=
  ⟨f .cavHigh, f .cavLow, f .cavRiseRate, f .cavFallRate, f .pressSensors, f .reheatLow, f .noHeatSink,
    .ofFn (fun m => f (.moduleHot m)), f .fieldLoss, f .esd, .ofFn (fun t => f (.trainFault t))⟩

/-- Every protection entry, in entry number order (8.1). -/
def ProtEntry.all : List ProtEntry :=
  [.cavHigh, .cavLow, .cavRiseRate, .cavFallRate, .pressSensors, .reheatLow, .noHeatSink]
    ++ HeatModule.all.map .moduleHot ++ [.fieldLoss, .esd] ++ Train.all.map .trainFault

/-- The side a train belongs to (R118: fixed by the train's name). -/
def Train.side : Train → Side
  | .c1 | .c2 | .c3 | .c4 => .charge
  | .e1 | .e2 | .e3 => .discharge

/-- The trains of a side, lower-numbered first. -/
def Side.trains : Side → List Train
  | .charge => [.c1, .c2, .c3, .c4]
  | .discharge => [.e1, .e2, .e3]

/-- The same value on both sides. -/
def PerSide.both (a : α) : PerSide α := ⟨a, a⟩

/-- The axes of a performance map (2.1). -/
structure MapAxes where
  (p0 pStep t0 tStep : Int)
deriving DecidableEq, Repr

/-- The 35 nodes of a performance map, row by row: node w[i][j] stands at 5 × i + j (2.2). -/
abbrev MapNodes := Vector Int 35

/-- The working set of 9.1: every setting of chapters 1 to 8 and default_alarm_mask, each as the integer that CONFIG_PUT
writes (10.4.1), and both maps. A value loaded from a sound image may lie outside its write range (R167). -/
structure WorkingSet where
  /-- Chapter 1, 1.1. -/
  (scanMs gapAlarm fieldLossMarks devThreshold suspectCount goodCount combineMode rateWindow : Int)
  /-- Chapter 2, 2.1. -/
  (cmapAxes emapAxes : MapAxes)
  (stiffness pWl pWh capture reheat : Int)
  /-- Chapter 3, 3.1. -/
  capacity : PerModule Int
  (dischargeCount emptyPermille fullPermille roleHyst reheatMin balancePeriod stableRange wideRange delta shareMin : Int)
  /-- Chapter 5, 5.1. -/
  shortLookahead : Int
  /-- Chapter 6, 6.1. -/
  (intervalLength emptyPolicy idleLead rejoinLead shortfallMarks : Int)
  /-- Chapter 7, 7.1. -/
  (rating minLoad windowBase windowLimit : PerTrain Int)
  (coldStartMarks warmStartMarks stopMarks warmHoldMarks windowScans stopPermille stopDelayMarks : Int)
  rotation : PerSide (Vector Int 16)
  (allowHostStart allowHostStop : Int)
  /-- Chapter 8, 8.2. -/
  (enable threshold hysteresis delay recoveryDelay latchLimit latchClearMarks action : PerEntry Int)
  allowRecoverOnline : Int
  /-- Chapter 9, 9.1. -/
  defaultAlarmMask : Int
  /-- The nodes of the compressor and of the expander map (2.2). -/
  (cmap emap : MapNodes)
deriving DecidableEq, Repr

/-- The settings by name, in the order of the setting numbers 1 to 62 of 10.4.1, with the item of a per-item setting. -/
inductive Setting where
  | scanMs | gapAlarm | fieldLossMarks | devThreshold | suspectCount | goodCount | combineMode | rateWindow
  | cmapP0 | cmapPStep | cmapT0 | cmapTStep | emapP0 | emapPStep | emapT0 | emapTStep
  | stiffness | pWl | pWh | capture | reheat
  | capacity (m : HeatModule)
  | dischargeCount | emptyPermille | fullPermille | roleHyst | reheatMin | balancePeriod | stableRange | wideRange
  | delta | shareMin
  | shortLookahead
  | intervalLength | emptyPolicy | idleLead | rejoinLead | shortfallMarks
  | rating (t : Train) | minLoad (t : Train) | windowBase (t : Train) | windowLimit (t : Train)
  | coldStartMarks | warmStartMarks | stopMarks | warmHoldMarks | windowScans | stopPermille | stopDelayMarks
  | rotation (sd : Side) (phase : Fin 16)
  | allowHostStart | allowHostStop
  | enable (e : ProtEntry) | threshold (e : ProtEntry) | hysteresis (e : ProtEntry) | delay (e : ProtEntry)
  | recoveryDelay (e : ProtEntry) | latchLimit (e : ProtEntry) | latchClearMarks (e : ProtEntry) | action (e : ProtEntry)
  | allowRecoverOnline
  | defaultAlarmMask
deriving DecidableEq, Repr

/-- FREE (log entry 6): the numbers from which orders are taken where the manual gives none, one after another. -/
opaque Config.freeOrder : Nat → Nat

/-- FREE (log entry 11): the bytes the image's values are laid out as. R167 and R171 give the CRC over the stored values
and no layout. -/
opaque Config.imageBytes : WorkingSet → List Byte

/-- FREE (log entry 12): what a yes-or-no setting loaded from an image with a code other than 0 and 1 is taken as. -/
opaque Config.strayFlag : Int → Bool

/-- FREE (log entry 12): whether a combine_mode loaded with a code other than 0 and 1 is taken as MEDIAN. -/
opaque Config.strayCombineIsMedian : Int → Bool

/-- FREE (log entry 12): the fill of a module (stored heat, capacity) whose capacity setting was loaded as 0 or less. -/
opaque Config.strayFill : Int → Int → Int

/-- FREE (log entry 12): the rate formed from a ring when rate_window was loaded below 0. -/
opaque Config.strayRate : List Int → Int → Option Int

end Sys2Proof
end

