-- ==== Sys2Proof/Machine/Factory.lean ====
section
/-! DEFINITION. The factory defaults of the working set, from the settings tables of chapters 1 to 9 (R167). -/
namespace Sys2Proof.Machine

/-- The factory default compressor map (2.2.1). -/
def factoryCmap : MapNodes := #v[
  540, 552, 564, 581, 598,
  560, 573, 586, 604, 622,
  585, 598, 612, 631, 650,
  611, 625, 640, 660, 680,
  663, 679, 695, 716, 737,
  690, 706, 723, 745, 767,
  712, 729, 747, 770, 793]

/-- The factory default expander map (2.2.1). -/
def factoryEmap : MapNodes := #v[
  402, 421, 440, 459, 478,
  415, 435, 455, 475, 495,
  426, 447, 468, 489, 510,
  436, 458, 480, 502, 524,
  445, 468, 491, 514, 537,
  453, 477, 501, 525, 549,
  460, 485, 510, 535, 560]

/-- A setting of the protection entries that has one value for most of them and others for a few (8.2). Arguments: entries
1 to 7 in order, MODULE_HOT, FIELD_LOSS, ESD, TRAIN_FAULT. -/
def entryDefaults (e1 e2 e3 e4 e5 e6 e7 hot loss esd fault : Int) : PerEntry Int :=
  ⟨e1, e2, e3, e4, e5, e6, e7, .ofFn (fun _ => hot), loss, esd, .ofFn (fun _ => fault)⟩

/-- Every setting at its factory default, with both factory maps. Flags are 1 for yes and 0 for no (R176, log entry 13);
a rotation phase is a train number 1 to 7 (10.4.1); a setting that does not apply to an entry is held as 0. -/
def factory : WorkingSet where
  scanMs := 200
  gapAlarm := 3
  fieldLossMarks := 4
  devThreshold := 40
  suspectCount := 5
  goodCount := 25
  combineMode := 0
  rateWindow := 50
  cmapAxes := ⟨4000, 700, -100, 100⟩
  emapAxes := ⟨4000, 700, 4600, 300⟩
  stiffness := 655
  pWl := 4800
  pWh := 7000
  capture := 620
  reheat := 380
  capacity := .ofFn (fun _ => 250000000)
  dischargeCount := 2
  emptyPermille := 30
  fullPermille := 980
  roleHyst := 40
  reheatMin := 5200
  balancePeriod := 25
  stableRange := 20
  wideRange := 50
  delta := 10
  shareMin := 100
  shortLookahead := 4
  intervalLength := 1800
  emptyPolicy := 0
  idleLead := 120
  rejoinLead := 240
  shortfallMarks := 60
  rating := ⟨180, 180, 150, 150, 250, 250, 200⟩
  minLoad := ⟨70, 70, 60, 60, 80, 80, 60⟩
  windowBase := .ofFn (fun _ => 4500)
  windowLimit := .ofFn (fun _ => 7500)
  coldStartMarks := 1200
  warmStartMarks := 240
  stopMarks := 600
  warmHoldMarks := 3600
  windowScans := 10
  stopPermille := 900
  stopDelayMarks := 120
  rotation := ⟨#v[1, 2, 3, 4, 1, 2, 3, 4, 1, 2, 3, 4, 1, 2, 3, 4], #v[5, 6, 7, 5, 6, 7, 5, 6, 7, 5, 6, 7, 5, 6, 7, 5]⟩
  allowHostStart := 0
  allowHostStop := 0
  enable := .ofFn (fun _ => 1)
  threshold := entryDefaults 7200 4600 5 5 0 0 0 6200 0 0 0
  hysteresis := entryDefaults 50 50 2 2 0 50 0 100 0 0 0
  delay := entryDefaults 5 5 3 3 10 25 25 10 2 0 0
  recoveryDelay := entryDefaults 10 10 10 10 10 25 10 25 10 0 5
  latchLimit := entryDefaults 3 3 3 3 0 0 0 2 0 1 2
  latchClearMarks := .ofFn (fun _ => 7200)
  action := entryDefaults 1 2 1 2 3 2 1 0 3 3 0
  allowRecoverOnline := 0
  defaultAlarmMask := 8191
  cmap := factoryCmap
  emap := factoryEmap

end Sys2Proof.Machine
end

