-- ==== Sys2Proof/Machine/State.lean ====
section
/-! DEFINITION. The state of the part, block by block (00_scope 1.4), as plain data, and the state after reset. -/
namespace Sys2Proof.Machine

/-! ## Measurement unit (chapter 1) -/

/-- The quality of a published quantity (R7). -/
inductive Quality where
  | good | substituted | degraded | held | stale
deriving DecidableEq, Repr

/-- A train state report (1.2). -/
inductive TrainReport where
  | stopped | accelerating | online | decelerating | fault
deriving DecidableEq, Repr

/-- A value of the measurement table with its quality (R7). -/
structure Measured (α : Type) where
  value : α
  quality : Quality
deriving DecidableEq, Repr

/-- The measurement table (1.6). The validated pressure before a scan is the previous validated pressure of R13. -/
structure MeasTable where
  pressure : Measured Int
  ambient : Measured Int
  reheat : Measured Int
  report : PerTrain (Measured TrainReport)
  load : PerTrain (Measured Int)
  top : PerModule (Measured Int)
  bottom : PerModule (Measured Int)
  flow : PerModule (Measured Int)
deriving DecidableEq, Repr

/-- The two states of a transducer (1.7). -/
inductive TransducerState where
  | good | suspect
deriving DecidableEq, Repr

/-- A transducer record (1.7); `last` is `none` for NO_READING. -/
structure TransducerRec where
  state : TransducerState
  run : Nat
  last : Option Int
deriving DecidableEq, Repr

/-- The measurement unit's state (R18). The ring is oldest first. -/
structure MeasState where
  table : MeasTable
  lastScan : Option Word16
  markCount : Nat
  fieldLoss : Bool
  duplicates : Nat
  gaps : Nat
  transducers : PerTransducer TransducerRec
  pressSensors : Bool
  ring : List Int
  rate : Option Int
deriving DecidableEq, Repr

/-! ## Heat store unit (chapter 3) -/

/-- A module's role (3.2). -/
inductive Role where
  | idle | charging | discharging | isolated
deriving DecidableEq, Repr

/-- The loop state of a set (3.7). -/
inductive LoopState where
  | stable | adjusting
deriving DecidableEq, Repr

/-- A module record (3.2), its capacity being the capacity setting; `sentRole` and `sentShare` are the last valve command
taken as sent (R49). -/
structure ModuleRec where
  stored : Int
  residue : Int
  known : Bool
  fill : Int
  role : Role
  inService : Bool
  share : Int
  top : Int
  bottom : Int
  flow : Int
  sentRole : Role
  sentShare : Int
deriving DecidableEq, Repr

/-- A set of modules in module number order with its loop state (3.2). -/
structure ModuleSet where
  members : List HeatModule
  loop : LoopState
deriving DecidableEq, Repr

/-- The heat store unit's state (R56). `noHeatSink` is the condition as it stands, `sinkHanded` as it was last handed to the
protection unit (R54). -/
structure HeatState where
  modules : PerModule ModuleRec
  sets : PerSide ModuleSet
  active : PerSide Bool
  balanceCount : Nat
  noHeatSink : Bool
  sinkHanded : Bool
deriving DecidableEq, Repr

/-! ## Schedule book (chapter 4) -/

/-- The reserve part of an entry (4.1). -/
structure Reserve where
  up : Int
  down : Int
  sustain : Int
deriving DecidableEq, Repr

/-- What a put gives an entry (R62). -/
structure PutForm where
  interval : Word32
  charge : Int
  discharge : Int
  lead : Int
  reserve : Option Reserve
deriving DecidableEq, Repr

/-- Feasibility status (4.1). -/
inductive FeasStatus where
  | pending | firm | short
deriving DecidableEq, Repr

/-- Reserve status (R89). -/
inductive ReserveStatus where
  | none | backed | unbacked
deriving DecidableEq, Repr

/-- A reason set, each reason at most once (4.1). -/
structure Reasons where
  capacity : Bool
  pathBlocked : Bool
  heat : Bool
  pressureHigh : Bool
  pressureLow : Bool
deriving DecidableEq, Repr

/-- The feasibility fields of an entry (4.1). -/
structure Feasibility where
  status : FeasStatus
  clipped : PerSide Int
  reasons : Reasons
  reserve : ReserveStatus
  endPressure : Int
  endHeat : Int
  spill : Bool
deriving DecidableEq, Repr

/-- An entry record (4.1). -/
structure Entry where
  put : PutForm
  revision : Byte
  putSinceRead : Bool
  feas : Feasibility
deriving DecidableEq, Repr

/-- One change of an amendment group (4.5). -/
inductive Change where
  | put (p : PutForm)
  | drop (n : Word32)
deriving DecidableEq, Repr

/-- The book and the groups; a group is `none` when FREE and its list of changes when OPEN (R59, R66). -/
structure BookState where
  entries : List Entry
  groups : PerGroup (Option (List Change))
deriving DecidableEq, Repr

/-! ## Dispatch clock (chapter 6) -/

/-- Where a slot's entry came from (6.3). -/
inductive SlotSource where
  | book | policy
deriving DecidableEq, Repr

/-- Where the active slot's clipped targets came from (6.3). -/
inductive ClipSource where
  | projection | boundary
deriving DecidableEq, Repr

/-- A slot that holds an entry; the clip source has its meaning on the active slot alone (6.3). -/
structure Slot where
  entry : Entry
  source : SlotSource
  clip : ClipSource
deriving DecidableEq, Repr

/-- What is ramping (6.5). -/
inductive RampKind where
  | none | interval | rejoin
deriving DecidableEq, Repr

/-- The ramp state (6.5). -/
structure Ramp where
  kind : RampKind
  s0 : Int
  n : Int
  v0 : PerSide Int
deriving DecidableEq, Repr

/-- One side of the dispatch record (6.9). -/
structure DispatchRec where
  effective : Int
  delivered : Int
  shortfall : Int
  overdelivery : Int
  count : Nat
deriving DecidableEq, Repr

/-- The dispatch clock's state (R116). -/
structure ClockState where
  timeValid : Bool
  interval : Word32
  mark : Int
  active : Option Slot
  staging : Option Slot
  ramp : Ramp
  dispatch : PerSide Int
  manual : PerSide Int
  deployment : Int
  record : PerSide DispatchRec
  permitsSeen : PerSide Bool
deriving DecidableEq, Repr

/-! ## Train sequencer (chapter 7) -/

/-- Train states (7.3). -/
inductive TrainState where
  | offline | cold | warm | starting | running | stopping | tripped
deriving DecidableEq, Repr

/-- Why a train last became TRIPPED (7.2). -/
inductive TripCause where
  | none | startTimeout | stopTimeout | fieldFault | protection
deriving DecidableEq, Repr

/-- A train record (7.2) with the start limit the train keeps for the whole start (R119). -/
structure TrainRec where
  state : TrainState
  timer : Nat
  load : Int
  heldOut : Bool
  windowCount : Nat
  cause : TripCause
  startLimit : Int
deriving DecidableEq, Repr

/-- The action of a TRAIN_CMD (R124). -/
inductive TrainAction where
  | start | stop | load | trip
deriving DecidableEq, Repr

/-- A train command (R124). -/
structure TrainCmd where
  train : Train
  action : TrainAction
  load : Int
deriving DecidableEq, Repr

/-- What the sequencer keeps for a side (R138). The start-order list is oldest first. -/
structure SeqSide where
  order : List Train
  pointer : Fin 16
  pendingStart : Bool
  stopCount : Nat
  target : Int
  permitSeen : Bool
deriving DecidableEq, Repr

/-- The train sequencer's state (R139). `outbox` is the model's own: the commands of the arrival being worked, handed on in
the order of R124 when its working ends (log entry 7). -/
structure SeqState where
  trains : PerTrain TrainRec
  sides : PerSide SeqSide
  outbox : List TrainCmd
deriving DecidableEq, Repr

/-! ## Projection engine (chapter 5) -/

/-- The figures of a completed run (R90). -/
structure RunSummary where
  startPressure : Int
  startHeat : Int
  capTotal : Int
  boundaryPressure : Int
  boundaryHeat : Int
  intervals : Nat
  lastInterval : Word32
  valid : Bool
deriving DecidableEq, Repr

/-- The copy a run takes of everything it reads (R80). -/
structure RunCopy where
  interval : Word32
  mark : Int
  activeClipped : PerSide Int
  staging : Option Slot
  permits : PerSide Bool
  book : List Entry
  trains : PerTrain TrainRec
  pressure : Int
  ambient : Int
  reheatTemp : Int
  modules : PerModule ModuleRec
  ws : WorkingSet
deriving DecidableEq, Repr

/-- A result in the shadow (R87). -/
structure RunResult where
  interval : Word32
  revision : Byte
  feas : Feasibility
deriving DecidableEq, Repr

/-- A run in flight: its copy, its shadow, and the figures it will report (R80, R90). -/
structure RunInFlight where
  copy : RunCopy
  staging : Option RunResult
  book : List RunResult
  figures : RunSummary
deriving DecidableEq, Repr

/-- The projection engine's state (R78): RUNNING is a run in flight, IDLE is none. -/
structure ProjState where
  run : Option RunInFlight
  rerun : Bool
  counter : Word16
  summary : RunSummary
deriving DecidableEq, Repr

/-! ## Protection unit (chapter 8) -/

/-- Entry states (8.4). -/
inductive ProtState where
  | normal | pending | tripped | recovering | latched
deriving DecidableEq, Repr

/-- A protection entry's state (R140). -/
structure EntryRec where
  state : ProtState
  evalCount : Nat
  tripCount : Nat
  normalMarks : Nat
  last : Option Int
deriving DecidableEq, Repr

/-- A trip record (R154); `latched` is the state reached: LATCHED when true, TRIPPED when false. -/
structure TripRecord where
  seq : Word16
  entry : ProtEntry
  latched : Bool
  value : Int
  timeValid : Bool
  interval : Word32
  mark : Int
deriving DecidableEq, Repr

/-- The protection unit's state (R157). The trip list is oldest first. -/
structure ProtUnit where
  entries : PerEntry EntryRec
  trips : List TripRecord
  seqCounter : Word16
deriving DecidableEq, Repr

/-! ## Mode controller (chapter 9) -/

/-- The plant modes (9.1). -/
inductive Mode where
  | setup | operate | manual
deriving DecidableEq, Repr

/-- What start-up loaded (9.1). -/
inductive WsSource where
  | image | defaults
deriving DecidableEq, Repr

/-- The state of the configuration store (9.1). -/
inductive StoreStatus where
  | idle | saveBusy | saveFailed
deriving DecidableEq, Repr

/-- The non-volatile configuration image: blank; values with the CRC stored after them (9.5); or one that a save left
partly written or wrongly read back, whose check fails (R168). -/
inductive ConfigImage where
  | blank
  | stored (values : WorkingSet) (crc : Word16)
  | broken
deriving DecidableEq, Repr

/-- The configuration store (9.1). -/
structure StoreState where
  source : WsSource
  unsaved : Bool
  status : StoreStatus
  image : ConfigImage
deriving DecidableEq, Repr

/-! ## Link unit (chapter 10) -/

/-- A frame: KIND, TAG and BODY (10.1). -/
structure Frame where
  kind : Byte
  tag : Byte
  body : List Byte
deriving DecidableEq, Repr

/-- A receiver (R170): hunting for SOF; past SOF; past the first LEN byte; inside a frame of LEN `len`, with the bytes taken
after LEN. -/
inductive Receiver where
  | hunt
  | len
  | lenLow (high : Byte)
  | data (len : Nat) (taken : List Byte)
deriving DecidableEq, Repr

/-- The counters of one link (R173). -/
structure LinkCounters where
  accepted : Nat
  errors : Nat
  gapDiscards : Nat
  overruns : Nat
deriving DecidableEq, Repr

/-- The link unit's state (10.2, 10.7). `hostTx` and `fieldTx` are the frames handed to each transmitter, in order. -/
structure LinkState where
  queue : PerLink (List Frame)
  rx : PerLink Receiver
  counters : PerLink LinkCounters
  alarms : Word16
  mask : Word16
  alertLow : Bool
  txTag : Byte
  hostTx : List Frame
  fieldTx : List Frame
deriving DecidableEq, Repr

/-! ## The whole part -/

/-- The state of the part. `choice` is a free value of the model from which the next order is taken where the manual gives
none, and `drawn` counts the free values drawn (log entry 6); `pending` is the queue of commands waiting, first in, first out. -/
structure State where
  power : Bool
  resetIn : Bool
  esdIn : Bool
  permits : PerSide Bool
  meas : MeasState
  heat : HeatState
  book : BookState
  proj : ProjState
  clock : ClockState
  seq : SeqState
  prot : ProtUnit
  mode : Mode
  ws : WorkingSet
  store : StoreState
  link : LinkState
  choice : Nat
  drawn : Nat
  pending : List Instr
deriving DecidableEq, Repr

/-- The faults of the part: none. No rule of the manual stops the part; a refused request is a reply (R174). -/
inductive Fault where
deriving DecidableEq, Repr

/-- The refusals of the model. -/
inductive Refusal where
  /-- Raised by an arm of exec whose command has no meaning yet; safe, since the model then stops. No arm raises it now. -/
  | notModelled (mnemonic : String)
deriving DecidableEq, Repr

/-! ## Values after reset -/

/-- A value of 0 with quality STALE (R18). -/
def staleZero : Measured Int := ⟨0, .stale⟩

/-- The measurement unit at power-on, given field_loss_marks (R18). DESIGN CHOICE: a field_loss_marks below 0, which only an
image can bring, gives mark count 0 (log entry 12). -/
def MeasState.powerOn (fieldLossMarks : Int) : MeasState where
  table := {
    pressure := staleZero, ambient := staleZero, reheat := staleZero
    report := .ofFn (fun _ => ⟨.stopped, .stale⟩), load := .ofFn (fun _ => staleZero)
    top := .ofFn (fun _ => staleZero), bottom := .ofFn (fun _ => staleZero), flow := .ofFn (fun _ => staleZero) }
  lastScan := none
  markCount := fieldLossMarks.toNat
  fieldLoss := true
  duplicates := 0
  gaps := 0
  transducers := .ofFn (fun _ => ⟨.good, 0, none⟩)
  pressSensors := false
  ring := []
  rate := none

/-- A module at power-on (R56). -/
def ModuleRec.powerOn : ModuleRec :=
  { stored := 0, residue := 0, known := false, fill := 0, role := .idle, inService := true, share := 0, top := 0,
    bottom := 0, flow := 0, sentRole := .idle, sentShare := 0 }

/-- An empty set, STABLE (R56). -/
def ModuleSet.empty : ModuleSet := ⟨[], .stable⟩

/-- The heat store unit at power-on (R56). -/
def HeatState.powerOn : HeatState :=
  { modules := .ofFn (fun _ => .powerOn), sets := .both .empty, active := .both false, balanceCount := 0,
    noHeatSink := false, sinkHanded := false }

/-- The book and the groups at power-on (R76). -/
def BookState.powerOn : BookState := { entries := [], groups := .ofFn (fun _ => none) }

/-- A run summary of zeros with its valid flag clear (R78). -/
def RunSummary.zero : RunSummary := ⟨0, 0, 0, 0, 0, 0, 0, false⟩

/-- The projection engine at power-on (R78). -/
def ProjState.powerOn : ProjState := { run := none, rerun := false, counter := 0, summary := .zero }

/-- No ramp (R116). -/
def Ramp.off : Ramp := ⟨.none, 0, 0, .both 0⟩

/-- A dispatch record of zeros (R116). -/
def DispatchRec.zero : DispatchRec := ⟨0, 0, 0, 0, 0⟩

/-- The dispatch clock at power-on (R116). -/
def ClockState.powerOn : ClockState :=
  { timeValid := false, interval := 0, mark := 0, active := none, staging := none, ramp := .off, dispatch := .both 0,
    manual := .both 0, deployment := 0, record := .both .zero, permitsSeen := .both false }

/-- A train at power-on (R139); the start limit is set at a start (R119). -/
def TrainRec.powerOn : TrainRec :=
  { state := .cold, timer := 0, load := 0, heldOut := false, windowCount := 0, cause := .none, startLimit := 0 }

/-- One side of the sequencer at power-on (R139). -/
def SeqSide.powerOn : SeqSide :=
  { order := [], pointer := 0, pendingStart := false, stopCount := 0, target := 0, permitSeen := false }

/-- The train sequencer at power-on (R139). -/
def SeqState.powerOn : SeqState := { trains := .ofFn (fun _ => .powerOn), sides := .both .powerOn, outbox := [] }

/-- A protection entry at power-on (R157). -/
def EntryRec.powerOn : EntryRec := ⟨.normal, 0, 0, 0, none⟩

/-- The protection unit at power-on, before the start-up evaluation of ESD (R157). -/
def ProtUnit.powerOn : ProtUnit := { entries := .ofFn (fun _ => .powerOn), trips := [], seqCounter := 0 }

/-- Counters of zeros (R173). -/
def LinkCounters.zero : LinkCounters := ⟨0, 0, 0, 0⟩

/-- The link unit at power-on with the given live mask, no alarm latched and ALERT released (R172, R173, R177, R178). -/
def LinkState.powerOn (mask : Word16) : LinkState :=
  { queue := ⟨[], []⟩, rx := ⟨.hunt, .hunt⟩, counters := ⟨.zero, .zero⟩, alarms := 0, mask := mask, alertLow := false,
    txTag := 0, hostTx := [], fieldTx := [] }

/-- The part after start-up (R169) on a blank configuration image with RESET_IN and ESD_IN high (log entry 5): SETUP, the
factory defaults with CONFIG_DEFAULTED latched (R167) and so ALERT low (R178), and ESD evaluated once, high (R153). -/
def State.reset : State where
  power := true
  resetIn := true
  esdIn := true
  permits := .both false
  meas := .powerOn 4
  heat := .powerOn
  book := .powerOn
  proj := .powerOn
  clock := .powerOn
  seq := .powerOn
  prot := { ProtUnit.powerOn with entries := ProtUnit.powerOn.entries.set .esd ⟨.normal, 0, 0, 0, some 0⟩ }
  mode := .setup
  ws := factory
  store := { source := .defaults, unsaved := true, status := .idle, image := .blank }
  link := { LinkState.powerOn 0x1FFF#16 with alarms := 0x1000#16, alertLow := true }
  choice := Config.freeOrder 0
  drawn := 0
  pending := []

end Sys2Proof.Machine
end

