-- ==== Sys2Proof/Machine/Operands.lean ====
section
/-! DEFINITION. The coding of bodies: big-endian fields (10.1), the numbering of items and named values (R174 to R176,
10.4.1), the scan body, the put form and the 35-byte entry (10.6). -/
namespace Sys2Proof.Machine

/-! ## Fields -/

/-- A flag is 0 for no and 1 for yes (R176). -/
def flagCode (b : Bool) : Int := if b then 1 else 0

/-- A one-byte field. -/
def be1 (x : Int) : List Byte := [BitVec.ofInt 8 x]

/-- A two-byte field, big-endian, two's complement (10.1). -/
def be2 (x : Int) : List Byte :=
  let w := BitVec.ofInt 16 x
  [w.extractLsb' 8 8, w.extractLsb' 0 8]

/-- A four-byte field, big-endian, two's complement (10.1). -/
def be4 (x : Int) : List Byte :=
  let w := BitVec.ofInt 32 x
  [w.extractLsb' 24 8, w.extractLsb' 16 8, w.extractLsb' 8 8, w.extractLsb' 0 8]

/-- A one-byte flag. -/
def beFlag (b : Bool) : List Byte := be1 (flagCode b)

/-- A count of one byte. -/
def be1n (n : Nat) : List Byte := be1 n

/-- A count of two bytes. -/
def be2n (n : Nat) : List Byte := be2 n

/-- An interval number: four bytes. -/
def beInterval (w : Word32) : List Byte := be4 w.toNat

/-- A two-byte value that may be absent: one byte that says whether it is there, then the value or zeros (R176). -/
def beOpt2 : Option Int → List Byte
  | some x => be1 1 ++ be2 x
  | none => be1 0 ++ be2 0

/-- A list of varying length, preceded by a one-byte count of its items (R176). -/
def beList {α : Type} (f : α → List Byte) (l : List α) : List Byte := be1n l.length ++ l.flatMap f

/-- The byte at an offset of a body. -/
def byteAt (b : List Byte) (k : Nat) : Nat := (b.getD k 0).toNat

/-- The unsigned two-byte field at an offset. -/
def u16At (b : List Byte) (k : Nat) : Int := (byteAt b k * 256 + byteAt b (k + 1) : Nat)

/-- The unsigned four-byte field at an offset. -/
def u32At (b : List Byte) (k : Nat) : Int :=
  (((byteAt b k * 256 + byteAt b (k + 1)) * 256 + byteAt b (k + 2)) * 256 + byteAt b (k + 3) : Nat)

/-- The signed two-byte field at an offset. -/
def s16At (b : List Byte) (k : Nat) : Int := if u16At b k < 32768 then u16At b k else u16At b k - 65536

/-- The signed four-byte field at an offset. -/
def s32At (b : List Byte) (k : Nat) : Int :=
  if u32At b k < 2147483648 then u32At b k else u32At b k - 4294967296

/-- The interval number at an offset. -/
def intervalAt (b : List Byte) (k : Nat) : Word32 := BitVec.ofInt 32 (u32At b k)

/-! ## Items -/

/-- The place of a train in the order C1 to C4, E1 to E3, from 0: its code on the field link (R175). -/
def trainCode : Train → Nat
  | .c1 => 0 | .c2 => 1 | .c3 => 2 | .c4 => 3 | .e1 => 4 | .e2 => 5 | .e3 => 6

/-- The train a number 1 to 7 names on the host link (R176). -/
def trainOfNumber (n : Int) : Option Train := Train.all.find? (fun t => (trainCode t + 1 : Int) == n)

/-- The place of a module in the order H1 to H6, from 0: its code on the field link (R175). -/
def moduleCode : HeatModule → Nat
  | .h1 => 0 | .h2 => 1 | .h3 => 2 | .h4 => 3 | .h5 => 4 | .h6 => 5

/-- The module a number 1 to 6 names on the host link (R176). -/
def moduleOfNumber (n : Int) : Option HeatModule := HeatModule.all.find? (fun m => (moduleCode m + 1 : Int) == n)

/-- The number of an amendment group, 1 to 4. -/
def groupNumber : GroupId → Nat
  | .g1 => 1 | .g2 => 2 | .g3 => 3 | .g4 => 4

/-- The group a number names. -/
def groupOfNumber (n : Int) : Option GroupId := GroupId.all.find? (fun g => (groupNumber g : Int) == n)

/-- The number of a protection entry, 1 to 22 (8.1). -/
def entryNumber : ProtEntry → Nat
  | .cavHigh => 1 | .cavLow => 2 | .cavRiseRate => 3 | .cavFallRate => 4 | .pressSensors => 5 | .reheatLow => 6
  | .noHeatSink => 7 | .moduleHot m => 8 + moduleCode m | .fieldLoss => 14 | .esd => 15 | .trainFault t => 16 + trainCode t

/-- The protection entry a number names. -/
def entryOfNumber (n : Int) : Option ProtEntry := ProtEntry.all.find? (fun e => (entryNumber e : Int) == n)

/-! ## Named values, by position in the list that defines them (R176) -/

def modeCode : Mode → Int
  | .setup => 0 | .operate => 1 | .manual => 2

def qualityCode : Quality → Int
  | .good => 0 | .substituted => 1 | .degraded => 2 | .held => 3 | .stale => 4

def reportCode : TrainReport → Int
  | .stopped => 0 | .accelerating => 1 | .online => 2 | .decelerating => 3 | .fault => 4

def reportOfCode (n : Nat) : Option TrainReport :=
  match n with
  | 0 => some .stopped | 1 => some .accelerating | 2 => some .online | 3 => some .decelerating | 4 => some .fault
  | _ => none

def transducerCode : TransducerState → Int
  | .good => 0 | .suspect => 1

def roleCode : Role → Int
  | .idle => 0 | .charging => 1 | .discharging => 2 | .isolated => 3

def loopCode : LoopState → Int
  | .stable => 0 | .adjusting => 1

def sideCode : Side → Int
  | .charge => 0 | .discharge => 1

def trainStateCode : TrainState → Int
  | .offline => 0 | .cold => 1 | .warm => 2 | .starting => 3 | .running => 4 | .stopping => 5 | .tripped => 6

def causeCode : TripCause → Int
  | .none => 0 | .startTimeout => 1 | .stopTimeout => 2 | .fieldFault => 3 | .protection => 4

def actionCode : TrainAction → Int
  | .start => 0 | .stop => 1 | .load => 2 | .trip => 3

def feasCode : FeasStatus → Int
  | .pending => 0 | .firm => 1 | .short => 2

def reserveCode : ReserveStatus → Int
  | .none => 0 | .backed => 1 | .unbacked => 2

def sourceCode : SlotSource → Int
  | .book => 0 | .policy => 1

def clipCode : ClipSource → Int
  | .projection => 0 | .boundary => 1

def rampCode : RampKind → Int
  | .none => 0 | .interval => 1 | .rejoin => 2

def protStateCode : ProtState → Int
  | .normal => 0 | .pending => 1 | .tripped => 2 | .recovering => 3 | .latched => 4

def wsSourceCode : WsSource → Int
  | .image => 0 | .defaults => 1

def storeCode : StoreStatus → Int
  | .idle => 0 | .saveBusy => 1 | .saveFailed => 2

/-! ## The scan body (10.6, R1) -/

/-- A scan record with each reading taken as a value, or as `none` for NO_READING (R1). -/
structure ScanRecord where
  number : Word16
  p : PerTransducer (Option Int)
  ambient : Option Int
  reheat : Option Int
  report : PerTrain (Option TrainReport)
  load : PerTrain (Option Int)
  top : PerModule (Option Int)
  bottom : PerModule (Option Int)
  flow : PerModule (Option Int)
deriving DecidableEq, Repr

/-- A reading is NO_READING when its value lies outside the range of its field (R1). Each NO_READING code of 10.6 lies
outside its field's range. -/
def reading (lo hi x : Int) : Option Int := if lo ≤ x ∧ x ≤ hi then some x else none

/-- Whether a field frame is a SCAN of 81 bytes (R172); SCAN is kind 0x50 (10.5). -/
def isGoodScan (f : Frame) : Bool := f.kind == 0x50 && f.body.length == 81

/-- The place of a transducer, from 0. -/
def transducerIndex : Transducer → Nat
  | .p1 => 0 | .p2 => 1 | .p3 => 2

/-- The scan record of an 81-byte body (10.6), reading by reading by R1 and the ranges of 1.2. -/
def scanOf (b : List Byte) : ScanRecord where
  number := BitVec.ofInt 16 (u16At b 0)
  p := .ofFn (fun t => reading 0 9000 (u16At b (2 + 2 * transducerIndex t)))
  ambient := reading (-400) 7000 (s16At b 8)
  reheat := reading (-400) 7000 (s16At b 10)
  report := .ofFn (fun t => reportOfCode (byteAt b (12 + trainCode t)))
  load := .ofFn (fun t => reading 0 4000 (u16At b (19 + 2 * trainCode t)))
  top := .ofFn (fun m => reading (-400) 7000 (s16At b (33 + 2 * moduleCode m)))
  bottom := .ofFn (fun m => reading (-400) 7000 (s16At b (45 + 2 * moduleCode m)))
  flow := .ofFn (fun m => reading (-2000000) 2000000 (s32At b (57 + 4 * moduleCode m)))

/-! ## The put form and the entry (10.6) -/

/-- The put form of 17 bytes: `none` when the body is malformed, that is, of another length, with a reserve byte other than
0 and 1, or with band or sustain bytes beside an absent reserve part (10.6, log entry 17). -/
def putOf (b : List Byte) : Option PutForm :=
  if b.length = 17 then
    let base := fun r => { interval := intervalAt b 0, charge := u16At b 4, discharge := u16At b 6, lead := u16At b 8,
                           reserve := r : PutForm }
    if byteAt b 10 = 1 then some (base (some ⟨u16At b 11, u16At b 13, u16At b 15⟩))
    else if byteAt b 10 = 0 ∧ u16At b 11 = 0 ∧ u16At b 13 = 0 ∧ u16At b 15 = 0 then some (base none)
    else none
  else none

/-- Every field of a put lies within its range (4.1); the lead is clamped, never refused (R63). -/
def putInRange (p : PutForm) : Bool :=
  (0 ≤ p.charge && p.charge ≤ 4000) && (0 ≤ p.discharge && p.discharge ≤ 4000) &&
  match p.reserve with
  | none => true
  | some r => (0 ≤ r.up && r.up ≤ 1000) && (0 ≤ r.down && r.down ≤ 1000) && (60 ≤ r.sustain && r.sustain ≤ 3600)

/-- The reason set as one byte (10.6). -/
def reasonCode (r : Reasons) : Int :=
  flagCode r.capacity + 2 * flagCode r.pathBlocked + 4 * flagCode r.heat + 8 * flagCode r.pressureHigh
    + 16 * flagCode r.pressureLow

/-- An entry in its 35 bytes (10.6). -/
def entryBytes (e : Entry) : List Byte :=
  beInterval e.put.interval ++ be2 e.put.charge ++ be2 e.put.discharge ++ be2 e.put.lead
    ++ (match e.put.reserve with
        | some r => be1 1 ++ be2 r.up ++ be2 r.down ++ be2 r.sustain
        | none => be1 0 ++ be2 0 ++ be2 0 ++ be2 0)
    ++ [e.revision] ++ beFlag e.putSinceRead ++ be1 (feasCode e.feas.status)
    ++ be2 e.feas.clipped.charge ++ be2 e.feas.clipped.discharge ++ be1 (reasonCode e.feas.reasons)
    ++ be1 (reserveCode e.feas.reserve) ++ be4 e.feas.endPressure ++ be4 e.feas.endHeat ++ beFlag e.feas.spill

end Sys2Proof.Machine
end

