-- ==== Sys2Proof/Machine/Settings.lean ====
section
/-! DEFINITION. The settings by number and item (10.4.1): reading and writing them in the working set, their write ranges
and write checks (the settings tables of chapters 1 to 9), the modes that accept them (R164), and their meaning as named
values. -/
namespace Sys2Proof.Machine

/-! ## Numbers and items (10.4.1) -/

/-- A per-entry setting named by its entry number. -/
def entryItem (f : ProtEntry → Setting) (i : Int) : Option Setting := (entryOfNumber i).map f

/-- A per-train setting named by its train number. -/
def trainItem (f : Train → Setting) (i : Int) : Option Setting := (trainOfNumber i).map f

/-- A setting with one item takes index 0. -/
def oneItem (x : Setting) (i : Int) : Option Setting := if i = 0 then some x else none

/-- A rotation phase: side × 16 + phase. -/
def rotationItem (i : Int) : Option Setting :=
  if 0 ≤ i ∧ i < 16 then some (.rotation .charge (Fin.ofNat 16 i.toNat))
  else if 16 ≤ i ∧ i < 32 then some (.rotation .discharge (Fin.ofNat 16 i.toNat))
  else none

/-- The setting a number and an item index name, if they name one (10.4.1). -/
def settingOf (num : Nat) (i : Int) : Option Setting :=
  match num with
  | 1 => oneItem .scanMs i
  | 2 => oneItem .gapAlarm i
  | 3 => oneItem .fieldLossMarks i
  | 4 => oneItem .devThreshold i
  | 5 => oneItem .suspectCount i
  | 6 => oneItem .goodCount i
  | 7 => oneItem .combineMode i
  | 8 => oneItem .rateWindow i
  | 9 => oneItem .cmapP0 i
  | 10 => oneItem .cmapPStep i
  | 11 => oneItem .cmapT0 i
  | 12 => oneItem .cmapTStep i
  | 13 => oneItem .emapP0 i
  | 14 => oneItem .emapPStep i
  | 15 => oneItem .emapT0 i
  | 16 => oneItem .emapTStep i
  | 17 => oneItem .stiffness i
  | 18 => oneItem .pWl i
  | 19 => oneItem .pWh i
  | 20 => oneItem .capture i
  | 21 => oneItem .reheat i
  | 22 => (moduleOfNumber i).map .capacity
  | 23 => oneItem .dischargeCount i
  | 24 => oneItem .emptyPermille i
  | 25 => oneItem .fullPermille i
  | 26 => oneItem .roleHyst i
  | 27 => oneItem .reheatMin i
  | 28 => oneItem .balancePeriod i
  | 29 => oneItem .stableRange i
  | 30 => oneItem .wideRange i
  | 31 => oneItem .delta i
  | 32 => oneItem .shareMin i
  | 33 => oneItem .shortLookahead i
  | 34 => oneItem .intervalLength i
  | 35 => oneItem .emptyPolicy i
  | 36 => oneItem .idleLead i
  | 37 => oneItem .rejoinLead i
  | 38 => oneItem .shortfallMarks i
  | 39 => trainItem .rating i
  | 40 => trainItem .minLoad i
  | 41 => trainItem .windowBase i
  | 42 => trainItem .windowLimit i
  | 43 => oneItem .coldStartMarks i
  | 44 => oneItem .warmStartMarks i
  | 45 => oneItem .stopMarks i
  | 46 => oneItem .warmHoldMarks i
  | 47 => oneItem .windowScans i
  | 48 => oneItem .stopPermille i
  | 49 => oneItem .stopDelayMarks i
  | 50 => rotationItem i
  | 51 => oneItem .allowHostStart i
  | 52 => oneItem .allowHostStop i
  | 53 => entryItem .enable i
  | 54 => entryItem .threshold i
  | 55 => entryItem .hysteresis i
  | 56 => entryItem .delay i
  | 57 => entryItem .recoveryDelay i
  | 58 => entryItem .latchLimit i
  | 59 => entryItem .latchClearMarks i
  | 60 => entryItem .action i
  | 61 => oneItem .allowRecoverOnline i
  | 62 => oneItem .defaultAlarmMask i
  | _ => none

/-- The numbers of the per-item settings with the indexes of their items; every other number has index 0 alone. -/
def itemsOf (num : Nat) : List Nat :=
  if num = 22 then [1, 2, 3, 4, 5, 6]
  else if 39 ≤ num ∧ num ≤ 42 then [1, 2, 3, 4, 5, 6, 7]
  else if num = 50 then List.range 32
  else if 53 ≤ num ∧ num ≤ 60 then (List.range 22).map (· + 1)
  else [0]

/-- Every setting number and item index, in the order of R159's SETTING_RANGE check. -/
def settingPlaces : List (Nat × Nat) :=
  (List.range 62).flatMap (fun k => (itemsOf (k + 1)).map (fun i => (k + 1, i)))

/-! ## Reading and writing -/

/-- The value a setting holds in a working set. -/
def settingGet (w : WorkingSet) : Setting → Int
  | .scanMs => w.scanMs
  | .gapAlarm => w.gapAlarm
  | .fieldLossMarks => w.fieldLossMarks
  | .devThreshold => w.devThreshold
  | .suspectCount => w.suspectCount
  | .goodCount => w.goodCount
  | .combineMode => w.combineMode
  | .rateWindow => w.rateWindow
  | .cmapP0 => w.cmapAxes.p0
  | .cmapPStep => w.cmapAxes.pStep
  | .cmapT0 => w.cmapAxes.t0
  | .cmapTStep => w.cmapAxes.tStep
  | .emapP0 => w.emapAxes.p0
  | .emapPStep => w.emapAxes.pStep
  | .emapT0 => w.emapAxes.t0
  | .emapTStep => w.emapAxes.tStep
  | .stiffness => w.stiffness
  | .pWl => w.pWl
  | .pWh => w.pWh
  | .capture => w.capture
  | .reheat => w.reheat
  | .capacity m => w.capacity.get m
  | .dischargeCount => w.dischargeCount
  | .emptyPermille => w.emptyPermille
  | .fullPermille => w.fullPermille
  | .roleHyst => w.roleHyst
  | .reheatMin => w.reheatMin
  | .balancePeriod => w.balancePeriod
  | .stableRange => w.stableRange
  | .wideRange => w.wideRange
  | .delta => w.delta
  | .shareMin => w.shareMin
  | .shortLookahead => w.shortLookahead
  | .intervalLength => w.intervalLength
  | .emptyPolicy => w.emptyPolicy
  | .idleLead => w.idleLead
  | .rejoinLead => w.rejoinLead
  | .shortfallMarks => w.shortfallMarks
  | .rating t => w.rating.get t
  | .minLoad t => w.minLoad.get t
  | .windowBase t => w.windowBase.get t
  | .windowLimit t => w.windowLimit.get t
  | .coldStartMarks => w.coldStartMarks
  | .warmStartMarks => w.warmStartMarks
  | .stopMarks => w.stopMarks
  | .warmHoldMarks => w.warmHoldMarks
  | .windowScans => w.windowScans
  | .stopPermille => w.stopPermille
  | .stopDelayMarks => w.stopDelayMarks
  | .rotation sd ph => (w.rotation.get sd).get ph
  | .allowHostStart => w.allowHostStart
  | .allowHostStop => w.allowHostStop
  | .enable e => w.enable.get e
  | .threshold e => w.threshold.get e
  | .hysteresis e => w.hysteresis.get e
  | .delay e => w.delay.get e
  | .recoveryDelay e => w.recoveryDelay.get e
  | .latchLimit e => w.latchLimit.get e
  | .latchClearMarks e => w.latchClearMarks.get e
  | .action e => w.action.get e
  | .allowRecoverOnline => w.allowRecoverOnline
  | .defaultAlarmMask => w.defaultAlarmMask

/-- The working set with one setting's value replaced. -/
def settingPut (w : WorkingSet) (x : Setting) (v : Int) : WorkingSet :=
  match x with
  | .scanMs => { w with scanMs := v }
  | .gapAlarm => { w with gapAlarm := v }
  | .fieldLossMarks => { w with fieldLossMarks := v }
  | .devThreshold => { w with devThreshold := v }
  | .suspectCount => { w with suspectCount := v }
  | .goodCount => { w with goodCount := v }
  | .combineMode => { w with combineMode := v }
  | .rateWindow => { w with rateWindow := v }
  | .cmapP0 => { w with cmapAxes := { w.cmapAxes with p0 := v } }
  | .cmapPStep => { w with cmapAxes := { w.cmapAxes with pStep := v } }
  | .cmapT0 => { w with cmapAxes := { w.cmapAxes with t0 := v } }
  | .cmapTStep => { w with cmapAxes := { w.cmapAxes with tStep := v } }
  | .emapP0 => { w with emapAxes := { w.emapAxes with p0 := v } }
  | .emapPStep => { w with emapAxes := { w.emapAxes with pStep := v } }
  | .emapT0 => { w with emapAxes := { w.emapAxes with t0 := v } }
  | .emapTStep => { w with emapAxes := { w.emapAxes with tStep := v } }
  | .stiffness => { w with stiffness := v }
  | .pWl => { w with pWl := v }
  | .pWh => { w with pWh := v }
  | .capture => { w with capture := v }
  | .reheat => { w with reheat := v }
  | .capacity m => { w with capacity := w.capacity.set m v }
  | .dischargeCount => { w with dischargeCount := v }
  | .emptyPermille => { w with emptyPermille := v }
  | .fullPermille => { w with fullPermille := v }
  | .roleHyst => { w with roleHyst := v }
  | .reheatMin => { w with reheatMin := v }
  | .balancePeriod => { w with balancePeriod := v }
  | .stableRange => { w with stableRange := v }
  | .wideRange => { w with wideRange := v }
  | .delta => { w with delta := v }
  | .shareMin => { w with shareMin := v }
  | .shortLookahead => { w with shortLookahead := v }
  | .intervalLength => { w with intervalLength := v }
  | .emptyPolicy => { w with emptyPolicy := v }
  | .idleLead => { w with idleLead := v }
  | .rejoinLead => { w with rejoinLead := v }
  | .shortfallMarks => { w with shortfallMarks := v }
  | .rating t => { w with rating := w.rating.set t v }
  | .minLoad t => { w with minLoad := w.minLoad.set t v }
  | .windowBase t => { w with windowBase := w.windowBase.set t v }
  | .windowLimit t => { w with windowLimit := w.windowLimit.set t v }
  | .coldStartMarks => { w with coldStartMarks := v }
  | .warmStartMarks => { w with warmStartMarks := v }
  | .stopMarks => { w with stopMarks := v }
  | .warmHoldMarks => { w with warmHoldMarks := v }
  | .windowScans => { w with windowScans := v }
  | .stopPermille => { w with stopPermille := v }
  | .stopDelayMarks => { w with stopDelayMarks := v }
  | .rotation sd ph => { w with rotation := w.rotation.set sd ((w.rotation.get sd).set ph.val v ph.isLt) }
  | .allowHostStart => { w with allowHostStart := v }
  | .allowHostStop => { w with allowHostStop := v }
  | .enable e => { w with enable := w.enable.set e v }
  | .threshold e => { w with threshold := w.threshold.set e v }
  | .hysteresis e => { w with hysteresis := w.hysteresis.set e v }
  | .delay e => { w with delay := w.delay.set e v }
  | .recoveryDelay e => { w with recoveryDelay := w.recoveryDelay.set e v }
  | .latchLimit e => { w with latchLimit := w.latchLimit.set e v }
  | .latchClearMarks e => { w with latchClearMarks := w.latchClearMarks.set e v }
  | .action e => { w with action := w.action.set e v }
  | .allowRecoverOnline => { w with allowRecoverOnline := v }
  | .defaultAlarmMask => { w with defaultAlarmMask := v }

/-! ## Ranges -/

/-- A value lies from `lo` to `hi`. -/
def within (lo hi v : Int) : Bool := lo ≤ v && v ≤ hi

/-- Entries 1 to 4 and 8 to 13 have a threshold, each with its range (8.2); REHEAT_LOW's is fixed to reheat_min (R141). -/
def thresholdRange : ProtEntry → Option (Int × Int)
  | .cavHigh | .cavLow => some (0, 9000)
  | .cavRiseRate | .cavFallRate => some (1, 1000)
  | .moduleHot _ => some (-400, 7000)
  | .pressSensors | .reheatLow | .noHeatSink | .fieldLoss | .esd | .trainFault _ => none

/-- Entries 1 to 4, 6 and 8 to 13 have a hysteresis (8.2). -/
def hasHysteresis : ProtEntry → Bool
  | .cavHigh | .cavLow | .cavRiseRate | .cavFallRate | .reheatLow | .moduleHot _ => true
  | .pressSensors | .noHeatSink | .fieldLoss | .esd | .trainFault _ => false

/-- Entries 1 to 7 and 14 have an action that can be written (8.2). -/
def hasAction : ProtEntry → Bool
  | .cavHigh | .cavLow | .cavRiseRate | .cavFallRate | .pressSensors | .reheatLow | .noHeatSink | .fieldLoss => true
  | .moduleHot _ | .esd | .trainFault _ => false

/-- The write range of a setting (settings tables of chapters 1 to 9): `none` when the setting does not apply to its item or
is fixed there (R141). The upper end of a min_load is its train's rating (7.1). -/
def rangeOk (w : WorkingSet) (x : Setting) (v : Int) : Option Bool :=
  match x with
  | .scanMs => some (within 50 1000 v)
  | .gapAlarm => some (within 1 255 v)
  | .fieldLossMarks => some (within 1 40 v)
  | .devThreshold => some (within 2 1000 v)
  | .suspectCount => some (within 1 255 v)
  | .goodCount => some (within 1 255 v)
  | .combineMode => some (within 0 1 v)
  | .rateWindow => some (within 8 64 v)
  | .cmapP0 | .emapP0 => some (within 0 9000 v)
  | .cmapPStep | .emapPStep => some (within 100 1500 v)
  | .cmapT0 | .emapT0 => some (within (-400) 7000 v)
  | .cmapTStep | .emapTStep => some (within 10 2000 v)
  | .stiffness => some (within 64 4095 v)
  | .pWl => some (within 0 9000 v)
  | .pWh => some (within 0 9000 v)
  | .capture => some (within 0 1000 v)
  | .reheat => some (within 100 900 v)
  | .capacity _ => some (within 1000000 400000000 v)
  | .dischargeCount => some (within 1 3 v)
  | .emptyPermille => some (within 0 1000 v)
  | .fullPermille => some (within 0 1000 v)
  | .roleHyst => some (within 0 200 v)
  | .reheatMin => some (within (-400) 7000 v)
  | .balancePeriod => some (within 1 50 v)
  | .stableRange => some (within 0 1000 v)
  | .wideRange => some (within 0 1000 v)
  | .delta => some (within 1 100 v)
  | .shareMin => some (within 0 1000 v)
  | .shortLookahead => some (within 1 16 v)
  | .intervalLength => some (v == 600 || v == 1800 || v == 3600 || v == 7200)
  | .emptyPolicy => some (within 0 1 v)
  | .idleLead => some (within 0 7199 v)
  | .rejoinLead => some (within 0 7200 v)
  | .shortfallMarks => some (within 1 7200 v)
  | .rating _ => some (within 10 400 v)
  | .minLoad t => some (within 0 (w.rating.get t) v)
  | .windowBase _ | .windowLimit _ => some (within 0 9000 v)
  | .coldStartMarks | .warmStartMarks | .stopMarks => some (within 1 7200 v)
  | .warmHoldMarks => some (within 1 65535 v)
  | .windowScans => some (within 1 255 v)
  | .stopPermille => some (within 0 1000 v)
  | .stopDelayMarks => some (within 1 7200 v)
  | .rotation sd _ => some (v == 0 || match trainOfNumber v with | some t => t.side == sd | none => false)
  | .allowHostStart | .allowHostStop | .allowRecoverOnline => some (within 0 1 v)
  | .enable e => if e = .esd then none else some (within 0 1 v)
  | .threshold e => (thresholdRange e).map (fun r => within r.1 r.2 v)
  | .hysteresis e => if hasHysteresis e then some (within 0 1000 v) else none
  | .delay e => if e = .esd then none else some (within 0 255 v)
  | .recoveryDelay e => if e = .esd then none else some (within 0 255 v)
  | .latchLimit e => if e = .esd then none else some (within 0 7 v)
  | .latchClearMarks _ => some (within 1 65535 v)
  | .action e => if hasAction e then some (within 0 3 v) else none
  | .defaultAlarmMask => some (within 0 65535 v)

/-- A write passes its range and write checks: a setting that does not apply or is fixed is refused (R141), and a rating is
not set below its train's min_load (R117). -/
def writeOk (w : WorkingSet) (x : Setting) (v : Int) : Bool :=
  rangeOk w x v == some true &&
  match x with
  | .rating t => w.minLoad.get t ≤ v
  | _ => true

/-- The settings CONFIG_PUT accepts in every mode (R164). -/
def writableAnyMode : Setting → Bool
  | .allowHostStart | .allowHostStop | .allowRecoverOnline | .defaultAlarmMask => true
  | _ => false

/-- The value a write stores: the mask word loses its bits 13 to 15 (10.7). -/
def storedValue (x : Setting) (v : Int) : Int :=
  match x with
  | .defaultAlarmMask => v % 8192
  | _ => v

/-! ## Meanings -/

/-- A yes-or-no setting: 1 is yes, 0 is no (R176, log entry 13); another code from an image is free (log entry 12). -/
def isYes (v : Int) : Bool := if v = 1 then true else if v = 0 then false else Config.strayFlag v

/-- combine_mode: 0 MEDIAN, 1 MEAN (10.4.1). -/
def combineIsMedian (w : WorkingSet) : Bool :=
  if w.combineMode = 0 then true else if w.combineMode = 1 then false else Config.strayCombineIsMedian w.combineMode

/-- empty_policy: 0 HOLD, 1 IDLE (10.4.1). -/
def policyIsHold (w : WorkingSet) : Bool := w.emptyPolicy == 0

/-- The mask word of default_alarm_mask (9.1, 10.7). -/
def defaultMask (w : WorkingSet) : Word16 := BitVec.ofInt 16 w.defaultAlarmMask

/-- The train a rotation phase names, or NONE (7.1). -/
def rotationTrain (w : WorkingSet) (sd : Side) (ph : Fin 16) : Option Train := trainOfNumber ((w.rotation.get sd).get ph)

/-- An entry is enabled; ESD always (8.2). -/
def entryEnabled (w : WorkingSet) (e : ProtEntry) : Bool := e == .esd || isYes (w.enable.get e)

end Sys2Proof.Machine
end

