-- ==== Sys2Proof/Machine/Flow.lean ====
section
/-! DEFINITION. The flow calculator (chapter 2): interpolation, mass, pressure step, inverse clips and heat arithmetic. It
keeps no state; each computation is a function of the values handed to it and the settings. `/` and `%` on integers with a
positive divisor are floor and mod (2.2). -/
namespace Sys2Proof.Machine

/-! ## Interpolation (2.3) -/

/-- The cell index and weight of a coordinate on an axis of `cells` cells from `x0` in steps (R23, R24). -/
def axisCell (x0 step : Int) (cells : Nat) (x : Int) : Nat × Int :=
  let top := x0 + cells * step
  let c := if x < x0 then x0 else if top < x then top else x
  if c = top then (cells - 1, 256) else (((c - x0) / step).toNat, (c - x0) % step * 256 / step)

/-- The node w[i][j] (2.2). -/
def node (m : MapNodes) (i j : Nat) : Int := m.toList.getD (5 * i + j) 0

/-- The specific work blended from the four nodes of a cell and rounded once, to nearest, halves up (R25). -/
def blend (m : MapNodes) (i : Nat) (f : Int) (j : Nat) (g : Int) : Int :=
  let a := node m i j * (256 - f) + node m (i + 1) j * f
  let b := node m i (j + 1) * (256 - f) + node m (i + 1) (j + 1) * f
  (a * (256 - g) + b * g + 32768) / 65536

/-- A map read at a pressure and a temperature (R22 to R25). -/
def mapRead (m : MapNodes) (ax : MapAxes) (p t : Int) : Int :=
  let c := axisCell ax.p0 ax.pStep 6 p
  let d := axisCell ax.t0 ax.tStep 4 t
  blend m c.1 c.2 d.1 d.2

/-- w_c: the compressor map at the ambient temperature (R22). -/
def workC (w : WorkingSet) (p ambient : Int) : Int := mapRead w.cmap w.cmapAxes p ambient

/-- w_e: the expander map at the reheat temperature (R22). -/
def workE (w : WorkingSet) (p reheat : Int) : Int := mapRead w.emap w.emapAxes p reheat

/-! ## Mass and pressure (2.4) -/

/-- The mass a side moves at power P dMW over M marks with specific work w (R26). -/
def mass (P M w : Int) : Int := P * 50 * M / w

/-- Ceiling division by a positive divisor (2.2). -/
def ceilDiv (a b : Int) : Int := (a + b - 1) / b

/-- The pressure step of a net mass, its size rounded up in both directions (R27). -/
def pressStep (w : WorkingSet) (dm : Int) : Int :=
  if dm = 0 then 0
  else if 0 < dm then ceilDiv (dm * w.stiffness) 1024000
  else -ceilDiv (-dm * w.stiffness) 1024000

/-- The pressure at the end of an interval step from p over M marks (R28). -/
def stepPressure (w : WorkingSet) (p ambient reheat charge discharge M : Int) : Int :=
  p + pressStep w (mass charge M (workC w p ambient) - mass discharge M (workE w p reheat))

/-! ## Inverse clips (2.5), over one full interval; 100 × L_s is 50 × L -/

/-- The high-side clip of a charge, given the discharge mass (R29). -/
def highClip (w : WorkingSet) (p charge mE wC : Int) : Int :=
  if w.pWh < p then 0
  else min charge (((w.pWh - p) * 1024000 / w.stiffness + mE) * wC / (50 * w.intervalLength))

/-- The low-side clip of a discharge, given the clipped charge's mass (R30). -/
def lowClip (w : WorkingSet) (p discharge mC wE : Int) : Int :=
  if p < w.pWl then 0
  else min discharge ((mC + (p - w.pWl) * 1024000 / w.stiffness) * wE / (50 * w.intervalLength))

/-! ## Heat arithmetic (2.6) -/

/-- The heat banked by a charge over M marks (R34). -/
def heatBanked (w : WorkingSet) (charge M : Int) : Int := charge * 50 * M * w.capture / 1000

/-- The heat a discharge mass needs (R35). -/
def heatNeed (w : WorkingSet) (mE : Int) : Int := mE * w.reheat

/-- The heat clip of a discharge from the usable heat at the start (R35). -/
def heatClip (w : WorkingSet) (discharge heat wE : Int) : Int :=
  min discharge (heat / w.reheat * wE / (50 * w.intervalLength))

end Sys2Proof.Machine
end

