-- ==== Sys2Proof/Machine/Flags.lean ====
section
/-! DEFINITION. The raw alarms, the alarm summary with its mask and the ALERT line (10.7), and saturating counters. -/
namespace Sys2Proof.Machine

/-- The raw alarms, in the bit order of 10.7. -/
inductive Alarm where
  | protTrip | protLatch | shortAhead | unbackedReserve | undelivered | sensorSuspect | fieldGap | frameError
  | startFail | heatEmpty | heatFull | bookEmptyNext | configDefaulted
deriving DecidableEq, Repr

/-- The word with an alarm's bit alone set (10.7). -/
def Alarm.word : Alarm → Word16
  | .protTrip => 0x0001
  | .protLatch => 0x0002
  | .shortAhead => 0x0004
  | .unbackedReserve => 0x0008
  | .undelivered => 0x0010
  | .sensorSuspect => 0x0020
  | .fieldGap => 0x0040
  | .frameError => 0x0080
  | .startFail => 0x0100
  | .heatEmpty => 0x0200
  | .heatFull => 0x0400
  | .bookEmptyNext => 0x0800
  | .configDefaulted => 0x1000

/-- The bits an alarm word has: 13 to 15 read as 0 and are ignored on write (10.7). -/
def alarmBits : Word16 := 0x1FFF

/-- ALERT is driven low while a bit latched is also set in the live mask (R178). -/
def alertLevel (alarms mask : Word16) : Bool := alarms &&& mask != 0

/-- The alarm summary replaced, ALERT formed anew (R177, R178). -/
def setAlarms (w : Word16) (s : State) : State :=
  { s with link := { s.link with alarms := w, alertLow := alertLevel w s.link.mask } }

/-- The live mask replaced, ALERT formed anew (R178). -/
def setMask (w : Word16) (s : State) : State :=
  { s with link := { s.link with mask := w &&& alarmBits, alertLow := alertLevel s.link.alarms (w &&& alarmBits) } }

/-- A block raises a raw alarm: the bit latches and ALERT is formed anew (R177, R178). -/
def raiseAlarm (a : Alarm) (s : State) : State := setAlarms (s.link.alarms ||| a.word) s

/-- An alarm raised when a condition holds. -/
def raiseIf (c : Bool) (a : Alarm) (s : State) : State := if c then raiseAlarm a s else s

/-- A counter that stays at 65535 once there (1.3, R173). -/
def satAdd (n k : Nat) : Nat := min 65535 (n + k)

end Sys2Proof.Machine
end

