-- ==== Sys2Proof/Machine/Ops.lean ====
section
/-! DEFINITION. The operations every family shares: when the part runs, the transmitters, the working of a host request, and
the taking of an open order from the free value `choice`. -/
namespace Sys2Proof.Machine

/-- The part runs: the supply is present and RESET_IN is high (R169). -/
def running (s : State) : Bool := s.power && s.resetIn

/-- A step of the part: its effect when the part runs; in reset or without supply the part takes nothing (R169). -/
def whenRunning (f : State → State) (s : State) : Host.Outcome State Fault Refusal :=
  .next (if running s then f s else s)

/-! ## Transmitters -/

/-- A frame handed to the field transmitter: its tag is the outbound sequence number, which is then incremented, 255 being
followed by 0 (R175). -/
def sendField (kind : Byte) (body : List Byte) (s : State) : State :=
  { s with link := { s.link with fieldTx := s.link.fieldTx ++ [⟨kind, s.link.txTag, body⟩], txTag := s.link.txTag + 1 } }

/-- The status codes of replies (R174). -/
inductive Status where
  | ok | okClamped | busy | wrongMode | badArg | badKind | noTime | late | outOfHorizon | bookFull | noEntry | noGroup
  | noGroupFree | groupFull | notCommitted | notPermitted | notReady | badConfig
deriving DecidableEq, Repr

/-- The number of a status code, in the order of R174 from 0. -/
def statusCode : Status → Byte
  | .ok => 0 | .okClamped => 1 | .busy => 2 | .wrongMode => 3 | .badArg => 4 | .badKind => 5 | .noTime => 6 | .late => 7
  | .outOfHorizon => 8 | .bookFull => 9 | .noEntry => 10 | .noGroup => 11 | .noGroupFree => 12 | .groupFull => 13
  | .notCommitted => 14 | .notPermitted => 15 | .notReady => 16 | .badConfig => 17

/-- The body of a reply: one status byte and what follows it (R174). -/
def reply (st : Status) (rest : List Byte) : List Byte := statusCode st :: rest

/-- What working a request gives: the body of its reply and the state. -/
abbrev Worked := List Byte × State

/-- A refusal: the status alone, and nothing changed (R174). -/
def refuse (st : Status) (s : State) : Worked := (reply st [], s)

/-- The reply is handed to the host transmitter, with the kind's top bit set and the tag of the request, and the request
leaves its queue (R172, R174). -/
def sendReply (f : Frame) (w : Worked) : State :=
  { w.2 with link := { w.2.link with
      queue := { w.2.link.queue with host := w.2.link.queue.host.drop 1 }
      hostTx := w.2.link.hostTx ++ [⟨f.kind ||| 0x80, f.tag, w.1⟩] } }

/-- The frame at the head of the host queue is worked by the owner of its kind when it is of that kind; otherwise there is
nothing for this step to take (R174, log entry 2). -/
def answer (kind : Byte) (work : List Byte → State → Worked) (s : State) : State :=
  match s.link.queue.host with
  | f :: _ => if f.kind = kind then sendReply f (work f.body s) else s
  | [] => s

/-- A request without arguments: a longer body is refused BAD_ARG (10.4). -/
def bare (work : State → Worked) (body : List Byte) (s : State) : Worked :=
  if body = [] then work s else refuse .badArg s

/-- A read: it answers OK with the fields given and changes nothing. -/
def readOnly (fields : State → List Byte) (s : State) : Worked := (reply .ok (fields s), s)

/-! ## Orders the manual leaves open (log entry 6) -/

/-- The items of a list in the order a number picks: its remainder by the length picks the first item, its quotient the
order of the rest. 0 picks the order written. -/
def arrange {α : Type} : Nat → Nat → List α → List α
  | 0, _, _ => []
  | fuel + 1, n, l =>
    match l[n % l.length]? with
    | some x => x :: arrange fuel (n / l.length) (l.eraseIdx (n % l.length))
    | none => []

/-- Two items exchanged where the second would come before the first. -/
def keepBefore {α : Type} [DecidableEq α] (a b : α) (l : List α) : List α :=
  if l.idxOf b < l.idxOf a then l.map (fun x => if x = a then b else if x = b then a else x) else l

/-- The free value that was used gives way to the next one drawn. -/
def drawChoice (s : State) : State := { s with choice := Config.freeOrder (s.drawn + 1), drawn := s.drawn + 1 }

end Sys2Proof.Machine
end

