-- ==== Sys2Proof/Machine/Project.lean ====
section
/-! DEFINITION. The projection engine (chapter 5): the run from its copy, the request for a run, and the publication of a
completed run. The four clip steps are shared with the boundary clip (R101). -/
namespace Sys2Proof.Machine

/-- The distance of an interval number onward from another (R58). -/
def distance (current n : Word32) : Nat := (n - current).toNat

/-! ## Start state (R81) and capacity (R85) -/

/-- A module is usable when it is IN_SERVICE, its heat is known and it is not ISOLATED (R81). -/
def usable (r : ModuleRec) : Bool := r.inService && r.known && r.role != .isolated

/-- The sum of the stored heat of the usable modules (R81). -/
def usableHeat (ms : PerModule ModuleRec) : Int :=
  (HeatModule.all.map (fun m => if usable (ms.get m) then (ms.get m).stored else 0)).sum

/-- The sum of the capacities of the usable modules (R81). -/
def totalCapacity (w : WorkingSet) (ms : PerModule ModuleRec) : Int :=
  (HeatModule.all.map (fun m => if usable (ms.get m) then w.capacity.get m else 0)).sum

/-- A pressure lies in a train's operating window, base and limit included (7.1). -/
def inWindow (w : WorkingSet) (t : Train) (p : Int) : Bool := w.windowBase.get t ≤ p && p ≤ w.windowLimit.get t

/-- A train counts toward the capacity of its side at a pressure (R85). -/
def countsToward (w : WorkingSet) (ts : PerTrain TrainRec) (p : Int) (t : Train) : Bool :=
  (ts.get t).state != .offline && (ts.get t).state != .tripped && !(ts.get t).heldOut && inWindow w t p

/-- The sum of the ratings of the trains that count (R85). -/
def sideCapacity (w : WorkingSet) (ts : PerTrain TrainRec) (p : Int) (sd : Side) : Int :=
  (sd.trains.map (fun t => if countsToward w ts p t then w.rating.get t else 0)).sum

/-! ## The clip steps (R85, R86) -/

/-- What steps 1 to 4 work from: the settings, the train table and the two held temperatures. -/
structure ClipFrom where
  ws : WorkingSet
  trains : PerTrain TrainRec
  ambient : Int
  reheatTemp : Int
deriving DecidableEq, Repr

/-- What steps 1 to 4 give: the clipped targets, the reasons, and the capacities of step 1 kept for step 7. -/
structure Clip where
  clipped : PerSide Int
  reasons : Reasons
  capacity : PerSide Int
deriving DecidableEq, Repr

/-- Step 1 for one side: the capacity is 0 where the path is not open, and the request is cut to it (R85). Gives the
capacity and the request left. -/
def capStep (c : ClipFrom) (p : Int) (sd : Side) (isOpen : Bool) (request : Int) : Int × Int :=
  let cap := if isOpen then sideCapacity c.ws c.trains p sd else 0
  (cap, if cap < request then cap else request)

/-- Steps 1 to 4 of one interval from pressure p and heat H (R85, R86): capacity, heat clip, high-side clip, low-side clip.
`isOpen` is false for a side whose path counts as blocked. -/
def clipSteps (c : ClipFrom) (p heat : Int) (isOpen : PerSide Bool) (request : PerSide Int) : Clip :=
  let L := c.ws.intervalLength
  let wC := workC c.ws p c.ambient
  let wE := workE c.ws p c.reheatTemp
  let c1 := capStep c p .charge isOpen.charge request.charge
  let d1 := capStep c p .discharge isOpen.discharge request.discharge
  let d2 := heatClip c.ws d1.2 heat wE
  let c3 := highClip c.ws p c1.2 (mass d2 L wE) wC
  let d4 := lowClip c.ws p d2 (mass c3 L wC) wE
  let cutC := c1.2 < request.charge
  let cutD := d1.2 < request.discharge
  { clipped := ⟨c3, d4⟩
    reasons := {
      capacity := (isOpen.charge && cutC) || (isOpen.discharge && cutD)
      pathBlocked := (!isOpen.charge && cutC) || (!isOpen.discharge && cutD)
      heat := d2 < d1.2
      pressureHigh := c3 < c1.2
      pressureLow := d4 < d2 }
    capacity := ⟨c1.1, d1.1⟩ }

/-- No reason recorded. -/
def noReasons : Reasons := ⟨false, false, false, false, false⟩

/-- FIRM with no reason, SHORT with one or more (R87, step 6). -/
def statusOf (r : Reasons) : FeasStatus := if r = noReasons then .firm else .short

/-- The feasibility fields a put writes: PENDING and zeros (R61). -/
def pendingFeas : Feasibility := ⟨.pending, ⟨0, 0⟩, noReasons, .none, 0, 0, false⟩

/-! ## Reserve backing (R88, R89) -/

/-- The up band is backed from the end state of the interval (R88). -/
def upBacked (c : ClipFrom) (k : Clip) (r : Reserve) (p1 heat1 : Int) : Bool :=
  let x := max 0 (r.up - k.clipped.charge)
  let m := mass x (2 * r.sustain) (workE c.ws p1 c.reheatTemp)
  x == 0 ||
    (k.clipped.discharge + x ≤ k.capacity.discharge && c.ws.pWl ≤ p1 + pressStep c.ws (-m) && heatNeed c.ws m ≤ heat1)

/-- The down band is backed from the end state of the interval (R89). -/
def downBacked (c : ClipFrom) (k : Clip) (r : Reserve) (p1 : Int) : Bool :=
  let y := max 0 (r.down - k.clipped.discharge)
  let m := mass y (2 * r.sustain) (workC c.ws p1 c.ambient)
  y == 0 || (k.clipped.charge + y ≤ k.capacity.charge && p1 + pressStep c.ws m ≤ c.ws.pWh)

/-- The reserve status of an interval (R89). -/
def reserveStatus (c : ClipFrom) (k : Clip) (r : Option Reserve) (p1 heat1 : Int) : ReserveStatus :=
  match r with
  | none => .none
  | some r => if upBacked c k r p1 heat1 && downBacked c k r p1 then .backed else .unbacked

/-- One interval worked in seven steps (5.5): its feasibility, which carries its end pressure, end heat and clipped targets
forward. -/
def projectInterval (c : ClipFrom) (capTotal p heat : Int) (isOpen : PerSide Bool) (request : PerSide Int)
    (reserve : Option Reserve) : Feasibility :=
  let k := clipSteps c p heat isOpen request
  let L := c.ws.intervalLength
  let mE := mass k.clipped.discharge L (workE c.ws p c.reheatTemp)
  let p1 := stepPressure c.ws p c.ambient c.reheatTemp k.clipped.charge k.clipped.discharge L
  let h := heat - heatNeed c.ws mE + heatBanked c.ws k.clipped.charge L
  let heat1 := min capTotal h
  { status := statusOf k.reasons, clipped := k.clipped, reasons := k.reasons
    reserve := reserveStatus c k reserve p1 heat1, endPressure := p1, endHeat := heat1, spill := capTotal < h }

/-! ## The run (5.4) -/

/-- What the clips of a run work from. -/
def RunCopy.clipFrom (c : RunCopy) : ClipFrom := ⟨c.ws, c.trains, c.ambient, c.reheatTemp⟩

/-- The targets the remainder is projected at: the active slot's clipped targets, 0 on a side whose permit is low (R83). -/
def remainderTargets (c : RunCopy) : PerSide Int :=
  ⟨if c.permits.charge then c.activeClipped.charge else 0, if c.permits.discharge then c.activeClipped.discharge else 0⟩

/-- Pressure and heat at the next boundary, after the remainder of the current interval (R83). -/
def remainderEnd (c : RunCopy) : Int × Int :=
  let M := c.ws.intervalLength - c.mark
  let r := remainderTargets c
  let H := usableHeat c.modules
  let mE := mass r.discharge M (workE c.ws c.pressure c.reheatTemp)
  (stepPressure c.ws c.pressure c.ambient c.reheatTemp r.charge r.discharge M,
   min (totalCapacity c.ws c.modules) (max 0 (H - heatNeed c.ws mE + heatBanked c.ws r.charge M)))

/-- The requests of a gap under the copied book-empty policy, from the clipped targets of the interval before (R84). -/
def gapRequest (c : RunCopy) (before : PerSide Int) : PerSide Int := if policyIsHold c.ws then before else ⟨0, 0⟩

/-- The staging interval: from the staging slot, or as a gap, which no permit closes, where the slot is EMPTY (R82, R84,
R85). A gap that follows the remainder holds the active slot's clipped targets (log entry 25). -/
def projectStaging (c : RunCopy) : Feasibility :=
  let e := remainderEnd c
  match c.staging with
  | some sl => projectInterval c.clipFrom (totalCapacity c.ws c.modules) e.1 e.2 c.permits
      ⟨sl.entry.put.charge, sl.entry.put.discharge⟩ sl.entry.put.reserve
  | none => projectInterval c.clipFrom (totalCapacity c.ws c.modules) e.1 e.2 (.both true) (gapRequest c c.activeClipped) none

/-- The `n` intervals from distance `d` on, each starting where the one before ended (R82): the results of those with an
entry; a gap leaves none (R84). -/
def projectBook (c : RunCopy) : Nat → Nat → Feasibility → List RunResult
  | 0, _, _ => []
  | n + 1, d, before =>
    match c.book.find? (fun e => distance c.interval e.put.interval == d) with
    | some e =>
      let f := projectInterval c.clipFrom (totalCapacity c.ws c.modules) before.endPressure before.endHeat (.both true)
        ⟨e.put.charge, e.put.discharge⟩ e.put.reserve
      ⟨e.put.interval, e.revision, f⟩ :: projectBook c n (d + 1) f
    | none =>
      projectBook c n (d + 1) (projectInterval c.clipFrom (totalCapacity c.ws c.modules) before.endPressure before.endHeat
        (.both true) (gapRequest c before.clipped) none)

/-- The largest distance of an entry of the copied book, or 1 when it is empty: the last interval projected (R82). -/
def lastDistance (c : RunCopy) : Nat := c.book.foldl (fun d e => max d (distance c.interval e.put.interval)) 1

/-- A run from its copy: the shadow and the figures it will report (R82, R90). -/
def projectRun (c : RunCopy) : RunInFlight :=
  let e := remainderEnd c
  let f := projectStaging c
  let d := lastDistance c
  { copy := c
    staging := c.staging.map (fun sl => ⟨sl.entry.put.interval, sl.entry.revision, f⟩)
    book := projectBook c (d - 1) 2 f
    figures := {
      startPressure := c.pressure, startHeat := usableHeat c.modules, capTotal := totalCapacity c.ws c.modules
      boundaryPressure := e.1, boundaryHeat := e.2, intervals := d, lastInterval := c.interval + BitVec.ofNat 32 d
      valid := true } }

/-! ## Requests (R79, R80) -/

/-- The active slot's clipped targets; 0 on both sides when it is EMPTY (R83, R106). -/
def activeClipped (c : ClockState) : PerSide Int :=
  match c.active with
  | some sl => sl.entry.feas.clipped
  | none => ⟨0, 0⟩

/-- The copy a run takes at its start (R80). -/
def takeCopy (s : State) : RunCopy where
  interval := s.clock.interval
  mark := s.clock.mark
  activeClipped := activeClipped s.clock
  staging := s.clock.staging
  permits := s.permits
  book := s.book.entries
  trains := s.seq.trains
  pressure := s.meas.table.pressure.value
  ambient := s.meas.table.ambient.value
  reheatTemp := s.meas.table.reheat.value
  modules := s.heat.modules
  ws := s.ws

/-- A run starts: it takes its copy, and the book sets the put-since-read flag of every entry to no with that taking
(R60, R80). -/
def startRun (s : State) : State :=
  { s with
    book := { s.book with entries := s.book.entries.map (fun e => { e with putSinceRead := false }) }
    proj := { s.proj with run := some (projectRun (takeCopy s)) } }

/-- A run is requested: not kept in SETUP, started when IDLE, and kept as the rerun flag when one is in flight (R79). -/
def requestRun (s : State) : State :=
  if s.mode = .setup then s
  else match s.proj.run with
    | none => startRun s
    | some _ => { s with proj := { s.proj with rerun := true } }

/-- Every member of a list requests a run, one after another (R79). -/
def requestRuns {α : Type} : List α → State → State
  | [], s => s
  | _ :: l, s => requestRuns l (requestRun s)

/-! ## Publication (R61, R90, R93) -/

/-- A result meets the three conditions of R61 on an entry: its interval, its revision, and no put since the run read. -/
def resultFits (r : RunResult) (e : Entry) : Bool :=
  r.interval == e.put.interval && r.revision == e.revision && !e.putSinceRead

/-- The result of a set that the book writes into an entry, if one fits (R61). -/
def resultFor (rs : List RunResult) (e : Entry) : Option RunResult := rs.find? (fun r => resultFits r e)

/-- An entry after the book has taken a result set (R61). -/
def takeResult (rs : List RunResult) (e : Entry) : Entry :=
  match resultFor rs e with
  | some r => { e with feas := r.feas }
  | none => e

/-- The result set the book writes from: none of it in SETUP (R61). -/
def bookResults (s : State) (r : RunInFlight) : List RunResult := if s.mode = .setup then [] else r.book

/-- The staging result, when the current interval number is still the one the run copied and the slot holds an entry
(R90). -/
def stagingResult (s : State) (r : RunInFlight) : Option RunResult :=
  if s.clock.interval = r.copy.interval ∧ s.clock.staging.isSome then r.staging else none

/-- The results written at a completion: those of the book and that of the staging slot (R93). -/
def writtenResults (s : State) (r : RunInFlight) : List RunResult :=
  s.book.entries.filterMap (resultFor (bookResults s r)) ++ (stagingResult s r).toList

/-- A written result calls for SHORT_AHEAD (R93). -/
def callsShortAhead (s : State) (r : RunInFlight) (x : RunResult) : Bool :=
  x.feas.status == .short && 1 ≤ distance s.clock.interval x.interval
    && (distance s.clock.interval x.interval : Int) ≤ r.copy.ws.shortLookahead

/-- The shadow is published in one step and the alarms of R93 are raised (R90). -/
def publishRun (r : RunInFlight) (s : State) : State :=
  let written := writtenResults s r
  let staging := match stagingResult s r with
    | some x => s.clock.staging.map (fun sl => { sl with entry := { sl.entry with feas := x.feas } })
    | none => s.clock.staging
  raiseIf (written.any (fun x => x.feas.reserve == .unbacked)) .unbackedReserve
    (raiseIf (written.any (callsShortAhead s r)) .shortAhead
      { s with
        book := { s.book with entries := s.book.entries.map (takeResult (bookResults s r)) }
        clock := { s.clock with staging := staging }
        proj := { s.proj with run := none, summary := r.figures, counter := s.proj.counter + 1 } })

/-- A set rerun flag is cleared and a new run starts at once (R78). -/
def rerunIfFlagged (s : State) : State :=
  if s.proj.rerun then startRun { s with proj := { s.proj with rerun := false } } else s

/-- PROJECTION_RUN_COMPLETE: the run in flight, if there is one, completes (R78, R90). -/
def execProjectionRunComplete (s : State) : Host.Outcome State Fault Refusal :=
  whenRunning (fun s => match s.proj.run with
    | some r => rerunIfFlagged (publishRun r s)
    | none => s) s

end Sys2Proof.Machine
end

