-- ==== Sys2Proof/Machine/Book.lean ====
section
/-! DEFINITION. The schedule book and the amendment groups (chapter 4): positions, direct amendments, group launches, the
book's part of a boundary, of a time setting and of mode changes. -/
namespace Sys2Proof.Machine

/-- The refusal an interval number meets by its position (R58): `none` within the horizon. -/
def positionRefusal (current n : Word32) : Option Status :=
  let d := distance current n
  if d ≤ 1 then some .late
  else if d ≤ 192 then none
  else if d ≤ 2147483648 then some .outOfHorizon
  else some .late

/-- The book's entry for an interval number. -/
def findEntry (es : List Entry) (n : Word32) : Option Entry := es.find? (fun e => e.put.interval == n)

/-- An entry put in its place, by distance, nearest first (R59). -/
def insertEntry (current : Word32) (e : Entry) : List Entry → List Entry
  | [] => [e]
  | x :: xs =>
    if distance current e.put.interval < distance current x.put.interval then e :: x :: xs
    else x :: insertEntry current e xs

/-- The entry a put makes, with the revision given (R60, R61). -/
def putEntry (p : PutForm) (revision : Byte) : Entry := ⟨p, revision, true, pendingFeas⟩

/-- The book after an accepted put: the entry replaced in place with the next revision, or inserted with revision 0
(R60, R62). -/
def applyPut (current : Word32) (p : PutForm) (es : List Entry) : List Entry :=
  match findEntry es p.interval with
  | some e => es.map (fun x => if x.put.interval == p.interval then putEntry p (e.revision + 1) else x)
  | none => insertEntry current (putEntry p 0) es

/-- The book after an accepted drop (R64). -/
def applyDrop (n : Word32) (es : List Entry) : List Entry := es.filter (fun e => !(e.put.interval == n))

/-- The checks of a put against the time and a book, ahead of its field ranges (orders 2 to 5 of R62, R68). -/
def checkPut (timeValid : Bool) (current : Word32) (es : List Entry) (p : PutForm) : Option Status :=
  if !timeValid then some .noTime
  else match positionRefusal current p.interval with
    | some r => some r
    | none => if (findEntry es p.interval).isNone ∧ 96 ≤ es.length then some .bookFull else none

/-- The checks of a drop against the time and a book (R64, R68). -/
def checkDrop (timeValid : Bool) (current : Word32) (es : List Entry) (n : Word32) : Option Status :=
  if !timeValid then some .noTime
  else match positionRefusal current n with
    | some r => some r
    | none => if (findEntry es n).isNone then some .noEntry else none

/-- A put with its lead clamped to L − 1 (R63). -/
def clampLead (w : WorkingSet) (p : PutForm) : PutForm :=
  if w.intervalLength - 1 < p.lead then { p with lead := w.intervalLength - 1 } else p

/-- OK, or OK_CLAMPED when the lead was clamped (R63). -/
def clampStatus (w : WorkingSet) (p : PutForm) : Status := if w.intervalLength - 1 < p.lead then .okClamped else .ok

/-- The book's entries replaced. -/
def setEntries (es : List Entry) (s : State) : State := { s with book := { s.book with entries := es } }

/-- One group's state replaced. -/
def setGroup (g : GroupId) (x : Option (List Change)) (s : State) : State :=
  { s with book := { s.book with groups := s.book.groups.set g x } }

/-! ## Launching a group (R68, R69) -/

/-- One change checked against a book. -/
def checkChange (timeValid : Bool) (current : Word32) (es : List Entry) : Change → Option Status
  | .put p => checkPut timeValid current es p
  | .drop n => checkDrop timeValid current es n

/-- One change applied to a book. -/
def applyChange (current : Word32) (es : List Entry) : Change → List Entry
  | .put p => applyPut current p es
  | .drop n => applyDrop n es

/-- The changes of a launch, checked in list order against the book as it would stand (R68): the index and refusal of the
first that fails, or the book after all of them. -/
def launch (timeValid : Bool) (current : Word32) : Nat → List Change → List Entry → Except (Nat × Status) (List Entry)
  | _, [], es => .ok es
  | k, c :: cs, es =>
    match checkChange timeValid current es c with
    | some r => .error (k, r)
    | none => launch timeValid current (k + 1) cs (applyChange current es c)

/-! ## The book's part of other events -/

/-- An entry as the book hands it to the staging slot: every field but the put-since-read flag, which stays in the book and
reads as no in a slot (R60, R71, R176). -/
def handedEntry (e : Entry) : Entry := { e with putSinceRead := false }

/-- At a boundary the book removes its entry for the new current + 1; in OPERATE and MANUAL it is the one handed to staging,
in SETUP it expires (R71, R72). -/
def removeStaged (s : State) : State := setEntries (applyDrop (s.clock.interval + 1) s.book.entries) s

/-- Entries that the position rule finds LATE leave the book on entry into OPERATE (R76). -/
def dropBelowHorizon (s : State) : State :=
  setEntries (s.book.entries.filter (fun e => positionRefusal s.clock.interval e.put.interval != some .late)) s

/-- Entries outside current+2 to current+192 leave the book at TIME_SET (R74). -/
def keepHorizon (s : State) : State :=
  setEntries (s.book.entries.filter (fun e => positionRefusal s.clock.interval e.put.interval == none)) s

/-- Every group discarded (R70). -/
def discardGroups (s : State) : State := { s with book := { s.book with groups := .ofFn (fun _ => none) } }

/-- On entry into SETUP: every group discarded and every entry's feasibility as a put writes it (R76, R95). -/
def bookEntersSetup (s : State) : State :=
  discardGroups (setEntries (s.book.entries.map (fun e => { e with feas := pendingFeas })) s)

/-- On a change of interval length: the book empty and every group discarded (R75). -/
def emptyBook (s : State) : State := discardGroups (setEntries [] s)

/-! ## Commands -/

/-- The working of ENTRY_PUT (R62, R63, R65). The reply's flag is 1 for inserted (10.8, R176, log entry 14). -/
def workEntryPut (b : List Byte) (s : State) : Worked :=
  match putOf b with
  | none => refuse .badArg s
  | some p =>
    match checkPut s.clock.timeValid s.clock.interval s.book.entries p with
    | some r => refuse r s
    | none =>
      if putInRange p then
        let s1 := setEntries (applyPut s.clock.interval (clampLead s.ws p) s.book.entries) s
        let revision := match findEntry s1.book.entries p.interval with
          | some e => e.revision
          | none => 0
        (reply (clampStatus s.ws p) (beInterval p.interval ++ [revision]
            ++ beFlag (findEntry s.book.entries p.interval).isNone ++ be1n s1.book.entries.length),
          requestRun s1)
      else refuse .badArg s

/-- ENTRY_PUT, kind 0x10 (R62). -/
def execEntryPut (s : State) : Host.Outcome State Fault Refusal := whenRunning (answer 0x10 workEntryPut) s

/-- The working of ENTRY_DROP (R64). -/
def workEntryDrop (b : List Byte) (s : State) : Worked :=
  if b.length ≠ 4 then refuse .badArg s
  else match checkDrop s.clock.timeValid s.clock.interval s.book.entries (intervalAt b 0) with
    | some r => refuse r s
    | none =>
      let s1 := setEntries (applyDrop (intervalAt b 0) s.book.entries) s
      (reply .ok (be1n s1.book.entries.length), requestRun s1)

/-- ENTRY_DROP, kind 0x11 (R64). -/
def execEntryDrop (s : State) : Host.Outcome State Fault Refusal := whenRunning (answer 0x11 workEntryDrop) s

/-- The working of GROUP_OPEN (R66). -/
def workGroupOpen (s : State) : Worked :=
  match GroupId.all.find? (fun g => (s.book.groups.get g).isNone) with
  | some g => (reply .ok (be1n (groupNumber g)), setGroup g (some []) s)
  | none => refuse .noGroupFree s

/-- GROUP_OPEN, kind 0x12 (R66). -/
def execGroupOpen (s : State) : Host.Outcome State Fault Refusal := whenRunning (answer 0x12 (bare workGroupOpen)) s

/-- The change a GROUP_ADD carries after its group byte: kind 0 PUT or 1 DROP (10.4), `none` when it is malformed or a field
of a PUT is out of range (R67, order 4). -/
def changeOf (b : List Byte) : Option Change :=
  if byteAt b 1 = 0 then
    match putOf (b.drop 2) with
    | some p => if putInRange p then some (.put p) else none
    | none => none
  else if byteAt b 1 = 1 ∧ b.length = 6 then some (.drop (intervalAt b 2))
  else none

/-- A change as a group stores it: a PUT's lead clamped (R67). -/
def storedChange (w : WorkingSet) : Change → Change
  | .put p => .put (clampLead w p)
  | .drop n => .drop n

/-- The status of an accepted add (R63, R67). -/
def addStatus (w : WorkingSet) : Change → Status
  | .put p => clampStatus w p
  | .drop _ => .ok

/-- The working of GROUP_ADD (R67). -/
def workGroupAdd (b : List Byte) (s : State) : Worked :=
  match groupOfNumber (byteAt b 0) with
  | none => refuse .badArg s
  | some g =>
    match s.book.groups.get g with
    | none => refuse .noGroup s
    | some cs =>
      if 16 ≤ cs.length then refuse .groupFull s
      else match changeOf b with
        | none => refuse .badArg s
        | some c => (reply (addStatus s.ws c) (be1n (cs.length + 1)), setGroup g (some (cs ++ [storedChange s.ws c])) s)

/-- GROUP_ADD, kind 0x13 (R67). -/
def execGroupAdd (s : State) : Host.Outcome State Fault Refusal := whenRunning (answer 0x13 workGroupAdd) s

/-- The working of GROUP_LAUNCH (R68, R69). Refused before any change is checked, it answers the status alone (log entry
39). -/
def workGroupLaunch (b : List Byte) (s : State) : Worked :=
  if b.length ≠ 1 then refuse .badArg s
  else match groupOfNumber (byteAt b 0) with
    | none => refuse .badArg s
    | some g =>
      match s.book.groups.get g with
      | none => refuse .noGroup s
      | some cs =>
        match launch s.clock.timeValid s.clock.interval 1 cs s.book.entries with
        | .error (k, r) => (reply r (be1n k), s)
        | .ok es =>
          let s1 := setGroup g none (setEntries es s)
          (reply .ok (be1n cs.length), if cs.isEmpty then s1 else requestRun s1)

/-- GROUP_LAUNCH, kind 0x14 (R68, R69). -/
def execGroupLaunch (s : State) : Host.Outcome State Fault Refusal := whenRunning (answer 0x14 workGroupLaunch) s

/-- The working of GROUP_DISCARD (R70). -/
def workGroupDiscard (b : List Byte) (s : State) : Worked :=
  if b.length ≠ 1 then refuse .badArg s
  else match groupOfNumber (byteAt b 0) with
    | none => refuse .badArg s
    | some g =>
      match s.book.groups.get g with
      | none => refuse .noGroup s
      | some _ => (reply .ok [], setGroup g none s)

/-- GROUP_DISCARD, kind 0x15 (R70). -/
def execGroupDiscard (s : State) : Host.Outcome State Fault Refusal := whenRunning (answer 0x15 workGroupDiscard) s

end Sys2Proof.Machine
end

