-- ==== Sys2Proof/Machine/Link.lean ====
section
/-! DEFINITION. The link unit (chapter 10): the receivers, the CRC, the inbound queues and counters, the frames that no owner
takes, and the alarm requests. -/
namespace Sys2Proof.Machine

/-! ## The CRC (R171) -/

/-- One bit of the CRC: polynomial 0x1021, no reflection. -/
def crcBit (c : Word16) : Word16 := if c.msb then (c <<< 1) ^^^ 0x1021 else c <<< 1

/-- A number of bits of the CRC. -/
def crcBits : Nat → Word16 → Word16
  | 0, c => c
  | n + 1, c => crcBits n (crcBit c)

/-- One byte, most significant bit first (R171). -/
def crcByte (c : Word16) (b : Byte) : Word16 := crcBits 8 (c ^^^ (b.zeroExtend 16 <<< 8))

/-- The CRC-16 of a sequence of bytes: initial value 0xFFFF, no final XOR (R171). -/
def crc16 (bs : List Byte) : Word16 := bs.foldl crcByte 0xFFFF

/-! ## Frames (10.1) -/

/-- The byte that starts a frame. -/
def sof : Byte := 0xC3

/-- LEN: the count of the bytes of KIND, TAG and BODY. -/
def Frame.len (f : Frame) : Nat := f.body.length + 2

/-- The bytes the CRC of a frame is formed over: LEN, KIND, TAG and BODY. -/
def Frame.covered (f : Frame) : List Byte := be2n f.len ++ f.kind :: f.tag :: f.body

/-- A frame as it stands on the wire, in both directions (10.1, R171). -/
def Frame.wire (f : Frame) : List Byte := sof :: f.covered ++ be2n (crc16 f.covered).toNat

/-- A LEN is from 2 to 510 (10.1). -/
def goodLen (n : Nat) : Bool := 2 ≤ n && n ≤ 510

/-! ## Counters and queues (R172, R173) -/

/-- One link's counters replaced. -/
def setCounters (l : Link) (c : LinkCounters) (s : State) : State :=
  { s with link := { s.link with counters := s.link.counters.set l c } }

/-- One link's receiver replaced. -/
def setRx (l : Link) (r : Receiver) (s : State) : State := { s with link := { s.link with rx := s.link.rx.set l r } }

/-- One link's queue replaced. -/
def setQueue (l : Link) (q : List Frame) (s : State) : State :=
  { s with link := { s.link with queue := s.link.queue.set l q } }

/-- A frame error: the counter, and FRAME_ERROR (R170, R172). -/
def frameError (l : Link) (s : State) : State :=
  raiseAlarm .frameError
    (setCounters l { s.link.counters.get l with errors := satAdd (s.link.counters.get l).errors 1 } s)

/-- How many frames a queue holds: 4 on the host link, 2 on the field link (R172). -/
def queueLimit : Link → Nat
  | .host => 4
  | .field => 2

/-- A good frame enters its queue and is counted accepted, or is dropped on a full queue and counted an overrun (R172,
R173). -/
def enqueue (l : Link) (f : Frame) (s : State) : State :=
  let c := s.link.counters.get l
  if (s.link.queue.get l).length < queueLimit l then
    setCounters l { c with accepted := satAdd c.accepted 1 } (setQueue l (s.link.queue.get l ++ [f]) s)
  else setCounters l { c with overruns := satAdd c.overruns 1 } s

/-! ## The receiver (R170) -/

/-- The frame made of the LEN bytes after LEN. -/
def frameOf (bs : List Byte) : Frame := ⟨bs.getD 0 0, bs.getD 1 0, bs.drop 2⟩

/-- A complete frame of LEN `n`: its CRC is checked; it is queued, or discarded as a frame error (R170). -/
def frameComplete (l : Link) (n : Nat) (taken : List Byte) (s : State) : State :=
  if taken.drop n = be2n (crc16 (be2n n ++ taken.take n)).toNat then enqueue l (frameOf (taken.take n)) s
  else frameError l s

/-- One byte taken by a receiver (R170). -/
def feed (l : Link) (b : Byte) (s : State) : State :=
  match s.link.rx.get l with
  | .hunt => if b = sof then setRx l .len s else s
  | .len => setRx l (.lenLow b) s
  | .lenLow h =>
    if goodLen (h.toNat * 256 + b.toNat) then setRx l (.data (h.toNat * 256 + b.toNat) []) s
    else frameError l (setRx l .hunt s)
  | .data n taken =>
    if taken.length + 1 = n + 2 then frameComplete l n (taken ++ [b]) (setRx l .hunt s)
    else setRx l (.data n (taken ++ [b])) s

/-- Bytes taken one after another. -/
def feedAll (l : Link) : List Byte → State → State
  | [], s => s
  | b :: bs, s => feedAll l bs (feed l b s)

/-- A gap inside a frame: the partial frame is discarded, the gap counter is incremented, and the receiver hunts. Outside a
frame a gap is nothing (R170). -/
def gap (l : Link) (s : State) : State :=
  if s.link.rx.get l = .hunt then s
  else setCounters l { s.link.counters.get l with gapDiscards := satAdd (s.link.counters.get l).gapDiscards 1 }
    (setRx l .hunt s)

/-- LINK_FRAME_RX: bytes arrive on a link without a gap (R170). -/
def execLinkFrameRx (l : Link) (bs : List Byte) (s : State) : Host.Outcome State Fault Refusal :=
  whenRunning (feedAll l bs) s

/-- FRAME_GAP_TIMEOUT: a gap over the limit, then the bytes that end it (R170). -/
def execFrameGapTimeout (l : Link) (bs : List Byte) (s : State) : Host.Outcome State Fault Refusal :=
  whenRunning (fun s => feedAll l bs (gap l s)) s

/-- SOF_DETECTED: SOF and the two bytes of LEN (R170). -/
def execSofDetected (l : Link) (lenHigh lenLow : Byte) (s : State) : Host.Outcome State Fault Refusal :=
  whenRunning (feedAll l [sof, lenHigh, lenLow]) s

/-! ## Frames that no owner takes -/

/-- FIELD_FRAME_DISCARD: a field frame at the head of its queue that is not a good SCAN (R172). -/
def execFieldFrameDiscard (s : State) : Host.Outcome State Fault Refusal :=
  whenRunning (fun s => match s.link.queue.field with
    | f :: fs => if isGoodScan f then s else frameError .field (setQueue .field fs s)
    | [] => s) s

/-- The host request kinds (10.5). -/
def requestKinds : List Byte :=
  [0x01, 0x02, 0x03, 0x04, 0x05, 0x06, 0x07, 0x08, 0x09, 0x0A, 0x0B, 0x10, 0x11, 0x12, 0x13, 0x14, 0x15, 0x18, 0x19,
   0x20, 0x21, 0x22, 0x23, 0x24, 0x28, 0x29, 0x2C, 0x2D, 0x30, 0x31, 0x34, 0x35, 0x36, 0x37, 0x38]

/-- HOST_BAD_KIND: a host frame at the head of its queue whose kind is no request kind is answered BAD_KIND (R174). -/
def execHostBadKind (s : State) : Host.Outcome State Fault Refusal :=
  whenRunning (fun s => match s.link.queue.host with
    | f :: _ => if requestKinds.contains f.kind then s else sendReply f (refuse .badKind s)
    | [] => s) s

/-! ## Alarm requests (R177, R178) -/

/-- The word at the start of a body. -/
def wordAt (b : List Byte) : Word16 := BitVec.ofInt 16 (u16At b 0)

/-- A word as two bytes. -/
def beWord (w : Word16) : List Byte := be2n w.toNat

/-- The working of ALARM_CLEAR (R177). -/
def workAlarmClear (b : List Byte) (s : State) : Worked :=
  if b.length ≠ 2 then refuse .badArg s
  else
    let s1 := setAlarms (s.link.alarms &&& ~~~(wordAt b)) s
    (reply .ok (beWord s1.link.alarms), s1)

/-- ALARM_CLEAR, kind 0x30 (R177). -/
def execAlarmClear (s : State) : Host.Outcome State Fault Refusal := whenRunning (answer 0x30 workAlarmClear) s

/-- The working of ALARM_MASK_SET (R178). -/
def workAlarmMaskSet (b : List Byte) (s : State) : Worked :=
  if b.length ≠ 2 then refuse .badArg s
  else
    let s1 := setMask (wordAt b) s
    (reply .ok (beWord s1.link.mask), s1)

/-- ALARM_MASK_SET, kind 0x31 (R178). -/
def execAlarmMaskSet (s : State) : Host.Outcome State Fault Refusal := whenRunning (answer 0x31 workAlarmMaskSet) s

end Sys2Proof.Machine
end

