-- ==== Sys2Proof/Machine/Heat.lean ====
section
/-! DEFINITION. The heat store unit (chapter 3): integration, side activity, roles and sets, the balance loop, valve
commands, isolation and release, and the requests MODULE_SERVICE and HEAT_PRESET. -/
namespace Sys2Proof.Machine

/-- One module's record replaced. -/
def setModule (m : HeatModule) (r : ModuleRec) (s : State) : State :=
  { s with heat := { s.heat with modules := s.heat.modules.set m r } }

/-- The fill of a stored heat in a capacity (R38); free for a capacity of 0 or less, which only an image can bring (log
entry 12). -/
def fillOf (stored capacity : Int) : Int :=
  if 0 < capacity then stored * 1000 / capacity else Config.strayFill stored capacity

/-- A module with a stored heat, its residue and the fill formed anew (R38). -/
def withStored (capacity stored residue : Int) (r : ModuleRec) : ModuleRec :=
  { r with stored := stored, residue := residue, fill := fillOf stored capacity }

/-! ## Valve commands (R49, R175) -/

/-- A VALVE_CMD for a module whose role or share differs from the last one sent for it (R49). VALVE_CMD is kind 0x52. -/
def sendValve (m : HeatModule) (s : State) : State :=
  let r := s.heat.modules.get m
  if r.role = r.sentRole ∧ r.share = r.sentShare then s
  else sendField 0x52 (be1n (moduleCode m) ++ be1 (roleCode r.role) ++ be2 r.share)
    (setModule m { r with sentRole := r.role, sentShare := r.share } s)

/-- The valve commands of an evaluation, in module number order (R49). -/
def sendValves (s : State) : State := HeatModule.all.foldl (fun s m => sendValve m s) s

/-! ## Roles and sets (R44 to R47) -/

/-- A discharge candidate (R45). -/
def dischargeCandidate (w : WorkingSet) (r : ModuleRec) : Bool :=
  usable r && w.reheatMin ≤ r.top &&
    (if r.role = .discharging then w.emptyPermille ≤ r.fill else w.emptyPermille + w.roleHyst ≤ r.fill)

/-- The rank of R45: fullest first, equal fills by lower module number. -/
def ranksBefore (ms : PerModule ModuleRec) (a b : HeatModule) : Bool :=
  (ms.get b).fill < (ms.get a).fill || ((ms.get a).fill == (ms.get b).fill && moduleCode a < moduleCode b)

/-- The discharge set: the first discharge_count candidates by rank, in module number order (R45). -/
def dischargeSet (w : WorkingSet) (ms : PerModule ModuleRec) : List HeatModule :=
  let cands := HeatModule.all.filter (fun m => dischargeCandidate w (ms.get m))
  cands.filter (fun m => ((cands.filter (fun k => ranksBefore ms k m)).length : Int) < w.dischargeCount)

/-- A charge candidate, for a module outside the discharge set (R46). -/
def chargeCandidate (w : WorkingSet) (r : ModuleRec) : Bool :=
  usable r && (if r.role = .charging then r.fill < w.fullPermille else r.fill < w.fullPermille - w.roleHyst)

/-- The charge set beside a discharge set: every charge candidate outside it (R46). -/
def chargeSet (w : WorkingSet) (ms : PerModule ModuleRec) (ds : List HeatModule) : List HeatModule :=
  HeatModule.all.filter (fun m => !ds.contains m && chargeCandidate w (ms.get m))

/-- The equal share of a member: floor(1000 / n), and one more for the members of lowest number while the remainder lasts
(R47). -/
def equalShare (members : List HeatModule) (m : HeatModule) : Int :=
  ((1000 / members.length + (if members.idxOf m < 1000 % members.length then 1 else 0) : Nat) : Int)

/-- The sets that an evaluation forms from the records as they stand (R45, R46). -/
def newSets (s : State) : PerSide (List HeatModule) :=
  let ds := if s.heat.active.discharge then dischargeSet s.ws s.heat.modules else []
  ⟨if s.heat.active.charge then chargeSet s.ws s.heat.modules ds else [], ds⟩

/-- A module's role under new sets: ISOLATED while isolated, else by membership (R46). -/
def roleUnder (sets : PerSide (List HeatModule)) (m : HeatModule) (r : ModuleRec) : Role :=
  if r.role = .isolated then .isolated
  else if sets.charge.contains m then .charging
  else if sets.discharge.contains m then .discharging
  else .idle

/-- A module's share after an evaluation: 0 outside the sets, the equal share in a set whose members changed, else as it
was (R46, R47). -/
def shareUnder (old : PerSide ModuleSet) (sets : PerSide (List HeatModule)) (m : HeatModule) (r : ModuleRec) : Int :=
  match roleUnder sets m r with
  | .charging => if sets.charge = old.charge.members then r.share else equalShare sets.charge m
  | .discharging => if sets.discharge = old.discharge.members then r.share else equalShare sets.discharge m
  | .idle | .isolated => 0

/-- A set after an evaluation: STABLE when its members changed, as it was otherwise (R47). -/
def setAfter (old : ModuleSet) (members : List HeatModule) : ModuleSet :=
  if members = old.members then old else ⟨members, .stable⟩

/-- The NO_HEAT_SINK condition formed anew (R54). -/
def formNoHeatSink (s : State) : State :=
  { s with heat := { s.heat with noHeatSink := s.heat.active.charge && s.heat.sets.charge.members.isEmpty } }

/-- Both sets formed anew, with roles, shares and the NO_HEAT_SINK condition, and no valve command (R44 to R47, R54). -/
def formSets (s : State) : State :=
  let sets := newSets s
  formNoHeatSink { s with heat := { s.heat with
    modules := .ofFn (fun m => let r := s.heat.modules.get m
      { r with role := roleUnder sets m r, share := shareUnder s.heat.sets sets m r })
    sets := ⟨setAfter s.heat.sets.charge sets.charge, setAfter s.heat.sets.discharge sets.discharge⟩ } }

/-- A role evaluation (R44), with its valve commands (R49). -/
def roleEvaluation (s : State) : State := sendValves (formSets s)

/-! ## Side activity (R43) -/

/-- A side is active while a train of it is STARTING or RUNNING (R43). -/
def sideActive (ts : PerTrain TrainRec) (sd : Side) : Bool :=
  sd.trains.any (fun t => (ts.get t).state == .starting || (ts.get t).state == .running)

/-- The train states as published: when either side activity flag changes, a role evaluation is made and NO_HEAT_SINK formed
anew (R43, R54). -/
def takeTrainStates (s : State) : State :=
  let a : PerSide Bool := .ofFn (sideActive s.seq.trains)
  if a = s.heat.active then s else roleEvaluation { s with heat := { s.heat with active := a } }

/-! ## Integration (R39, R40) -/

/-- What integrating one module gives: its record, and whether it fell below 0 or rose above its capacity. -/
structure Integrated where
  record : ModuleRec
  emptied : Bool
  filled : Bool
deriving DecidableEq, Repr

/-- One module integrated over `steps` scan periods from the publication's temperatures and flow (R38 to R40). -/
def integrate (w : WorkingSet) (steps : Int) (capacity top bottom flow : Int) (r : ModuleRec) : Integrated :=
  let r1 := { r with top := top, bottom := bottom, flow := flow }
  if r.known then
    let x := flow * w.scanMs * steps + r.residue
    let q := x.tdiv 1000
    let sum := r.stored + q
    if sum < 0 then ⟨withStored capacity 0 0 r1, true, false⟩
    else if capacity < sum then ⟨withStored capacity capacity 0 r1, false, true⟩
    else ⟨withStored capacity sum (x - q * 1000) r1, false, false⟩
  else ⟨r1, false, false⟩

/-- Every module integrated from the measurement table (R39). -/
def integrateAll (steps : Int) (s : State) : PerModule Integrated :=
  .ofFn (fun m => integrate s.ws steps (s.ws.capacity.get m) (s.meas.table.top.get m).value
    (s.meas.table.bottom.get m).value (s.meas.table.flow.get m).value (s.heat.modules.get m))

/-- A CHARGING or DISCHARGING module saturated on this scan (R40). -/
def memberSaturated (x : Integrated) : Bool :=
  (x.emptied || x.filled) && (x.record.role == .charging || x.record.role == .discharging)

/-- The integration of one publication: every module, the alarms of the modules that saturated, and one role evaluation when
a set member saturated (R39, R40). -/
def integrateScan (steps : Int) (s : State) : State :=
  let xs := integrateAll steps s
  let any := fun (f : Integrated → Bool) => HeatModule.all.any (fun m => f (xs.get m))
  let s1 := raiseIf (any (fun x => x.filled)) .heatFull (raiseIf (any (fun x => x.emptied)) .heatEmpty
    { s with heat := { s.heat with modules := .ofFn (fun m => (xs.get m).record) } })
  if any memberSaturated then roleEvaluation s1 else s1

/-! ## The balance loop (R48, R50, R51) -/

/-- The member of largest share; of two equal shares the lower-numbered (R51). -/
def largestShare (sh : PerModule Int) : List HeatModule → Option HeatModule
  | [] => none
  | m :: ms => match largestShare sh ms with
    | some k => if sh.get m < sh.get k then some k else some m
    | none => some m

/-- The member of smallest share; of two equal shares the lower-numbered (R51). -/
def smallestShare (sh : PerModule Int) : List HeatModule → Option HeatModule
  | [] => none
  | m :: ms => match smallestShare sh ms with
    | some k => if sh.get k < sh.get m then some k else some m
    | none => some m

/-- An excess taken from the largest share, not below share_min, then from the next largest, and so on (R51). -/
def takeExcess (shareMin : Int) : Nat → List HeatModule → Int → PerModule Int → PerModule Int
  | 0, _, _, sh => sh
  | n + 1, left, excess, sh =>
    if excess ≤ 0 then sh
    else match largestShare sh left with
      | none => sh
      | some m =>
        let cut := min excess (sh.get m - shareMin)
        takeExcess shareMin n (left.erase m) (excess - cut) (sh.set m (sh.get m - cut))

/-- The sum of the members' shares. -/
def shareSum (sh : PerModule Int) (members : List HeatModule) : Int := (members.map sh.get).sum

/-- Shares raised to share_min and brought to a sum of 1000 (R51). -/
def renormalise (shareMin : Int) (members : List HeatModule) (sh : PerModule Int) : PerModule Int :=
  let raised : PerModule Int := .ofFn (fun m => if members.contains m then max (sh.get m) shareMin else sh.get m)
  let sum := shareSum raised members
  if 1000 < sum then takeExcess shareMin members.length members (sum - 1000) raised
  else match smallestShare raised members with
    | some m => raised.set m (raised.get m + (1000 - sum))
    | none => raised

/-- The mean fill of a set (R50). -/
def meanFill (ms : PerModule ModuleRec) (members : List HeatModule) : Int :=
  (members.map (fun m => (ms.get m).fill)).sum / members.length

/-- The largest absolute deviation of a member's fill from the mean (R50). -/
def maxDev (ms : PerModule ModuleRec) (members : List HeatModule) : Int :=
  members.foldl (fun a m => max a (((ms.get m).fill - meanFill ms members).natAbs : Int)) 0

/-- The loop state after stage 2 for a set (table of R50). -/
def nextLoop (w : WorkingSet) (l : LoopState) (dev : Int) : LoopState :=
  match l with
  | .stable => if w.wideRange < dev then .adjusting else .stable
  | .adjusting => if dev ≤ w.stableRange then .stable else .adjusting

/-- A member's stepped share (R50): by delta when its deviation exceeds stable_range, toward the lagging modules in the
charge set and toward the fuller in the discharge set; below 0 it is taken as 0. -/
def steppedShare (w : WorkingSet) (sd : Side) (dev share : Int) : Int :=
  if (dev.natAbs : Int) ≤ w.stableRange then share
  else max 0 (match sd with
    | .charge => if dev < 0 then share + w.delta else share - w.delta
    | .discharge => if dev < 0 then share - w.delta else share + w.delta)

/-- The shares after stage 2 for a set that is stepped (R50, R51). -/
def steppedShares (w : WorkingSet) (sd : Side) (ms : PerModule ModuleRec) (members : List HeatModule) : PerModule Int :=
  renormalise w.shareMin members (.ofFn (fun m =>
    if members.contains m then steppedShare w sd ((ms.get m).fill - meanFill ms members) (ms.get m).share
    else (ms.get m).share))

/-- Stage 2 of a balance update for one side: the loop of a non-empty set whose membership stage 1 left (R50). -/
def balanceLoop (before : PerSide ModuleSet) (sd : Side) (s : State) : State :=
  let st := s.heat.sets.get sd
  if st.members = [] ∨ st.members ≠ (before.get sd).members then s
  else
    let l := nextLoop s.ws st.loop (maxDev s.heat.modules st.members)
    let s1 := { s with heat := { s.heat with sets := s.heat.sets.set sd { st with loop := l } } }
    if l = .adjusting then
      let sh := steppedShares s.ws sd s.heat.modules st.members
      let stepped : PerModule ModuleRec := .ofFn (fun m => { s1.heat.modules.get m with share := sh.get m })
      { s1 with heat := { s1.heat with modules := stepped } }
    else s1

/-- A balance update: the role evaluation without commands, the loop of the charge set and then of the discharge set, and
the valve commands (R48). -/
def balanceUpdate (s : State) : State :=
  sendValves (balanceLoop s.heat.sets .discharge (balanceLoop s.heat.sets .charge (formSets s)))

/-- The balance scan counter returned to 0 and an update made (R48). -/
def balanceDue (s : State) : State := balanceUpdate { s with heat := { s.heat with balanceCount := 0 } }

/-- A publication counted toward the next balance update (R48). -/
def countBalance (s : State) : State :=
  if s.ws.balancePeriod ≤ (s.heat.balanceCount + 1 : Nat) then balanceDue s
  else { s with heat := { s.heat with balanceCount := s.heat.balanceCount + 1 } }

/-- The NO_HEAT_SINK condition handed to the protection unit as it stands (R54). -/
def handSink (s : State) : State := { s with heat := { s.heat with sinkHanded := s.heat.noHeatSink } }

/-- The heat store unit takes a publication, and hands NO_HEAT_SINK when its part ends (R39, R40, R48, R54). DESIGN CHOICE: the
role evaluation of a saturated member, with its valve commands, comes before the publication is counted toward the balance
update (log entry 46). -/
def heatTakesScan (steps : Int) (s : State) : State := handSink (countBalance (integrateScan steps s))

/-! ## Isolation and release (R52, R53) -/

/-- An isolation request for a module (R52). The evaluation takes the module out of its set and equalises the shares of the
set it left. -/
def isolateModule (m : HeatModule) (s : State) : State :=
  let r := s.heat.modules.get m
  if r.role = .isolated then s
  else requestRun (roleEvaluation (setModule m { r with role := .isolated, share := 0 } s))

/-- A release request for a module (R53). -/
def releaseModule (m : HeatModule) (s : State) : State :=
  let r := s.heat.modules.get m
  if r.role = .isolated then roleEvaluation (requestRun (setModule m { r with role := .idle, share := 0 } s)) else s

/-! ## SETUP entry (R56) -/

/-- On entry into SETUP: roles IDLE except ISOLATED, both sets empty and STABLE, valve commands (R56). -/
def heatEntersSetup (s : State) : State :=
  sendValves (formNoHeatSink { s with heat := { s.heat with
    modules := .ofFn (fun m => let r := s.heat.modules.get m
      { r with role := if r.role = .isolated then .isolated else .idle, share := 0 })
    sets := .both .empty } })

/-! ## Capacity (R37) -/

/-- A change of a module's capacity acts at once: the stored heat is capped, then the residue is 0, and the fill is formed
anew (R37). -/
def takeCapacity (m : HeatModule) (s : State) : State :=
  let r := s.heat.modules.get m
  let c := s.ws.capacity.get m
  setModule m (if c < r.stored then withStored c c 0 r else withStored c r.stored r.residue r) s

/-! ## Commands -/

/-- BALANCE_UPDATE: the balance scan counter reaches balance_period (R48). -/
def execBalanceUpdate (s : State) : Host.Outcome State Fault Refusal :=
  whenRunning (fun s => if s.ws.balancePeriod ≤ (s.heat.balanceCount + 1 : Nat) then balanceDue s else s) s

/-- The working of MODULE_SERVICE (R42): module, state (0 IN_SERVICE, 1 OUT_OF_SERVICE). -/
def workModuleService (b : List Byte) (s : State) : Worked :=
  if b.length ≠ 2 ∨ 1 < byteAt b 1 then refuse .badArg s
  else match moduleOfNumber (byteAt b 0) with
    | none => refuse .badArg s
    | some m =>
      let r := s.heat.modules.get m
      let inService := byteAt b 1 == 0
      if r.inService = inService then (reply .ok [], s)
      else (reply .ok [], roleEvaluation (requestRun (setModule m { r with inService := inService } s)))

/-- MODULE_SERVICE, kind 0x28 (R42). -/
def execModuleService (s : State) : Host.Outcome State Fault Refusal := whenRunning (answer 0x28 workModuleService) s

/-- The working of HEAT_PRESET (R41): module, stored heat in four bytes. -/
def workHeatPreset (b : List Byte) (s : State) : Worked :=
  if b.length ≠ 5 then refuse .badArg s
  else if s.mode ≠ .setup then refuse .wrongMode s
  else match moduleOfNumber (byteAt b 0) with
    | none => refuse .badArg s
    | some m =>
      if s.ws.capacity.get m < u32At b 1 then refuse .badArg s
      else (reply .ok [], requestRun (setModule m
        { withStored (s.ws.capacity.get m) (u32At b 1) 0 (s.heat.modules.get m) with known := true } s))

/-- HEAT_PRESET, kind 0x29 (R41). -/
def execHeatPreset (s : State) : Host.Outcome State Fault Refusal := whenRunning (answer 0x29 workHeatPreset) s

end Sys2Proof.Machine
end

