-- ==== Sys2Proof/Machine/Trains.lean ====
section
/-! DEFINITION. The train sequencer (chapter 7): train states, start-order lists, the rotation arbiter, the allocator, and
what it does with a publication, a mark, a permit change, a trip request, a boundary and the host's train requests. The
commands of one arrival are gathered in the outbox and handed on, in the order of R124, when its working ends (log entry
7). -/
namespace Sys2Proof.Machine

/-- One train's record replaced. -/
def setTrain (t : Train) (r : TrainRec) (s : State) : State :=
  { s with seq := { s.seq with trains := s.seq.trains.set t r } }

/-- What the sequencer keeps for one side replaced. -/
def setSide (sd : Side) (x : SeqSide) (s : State) : State := { s with seq := { s.seq with sides := s.seq.sides.set sd x } }

/-- A pending start flag replaced (R128). -/
def setPending (sd : Side) (b : Bool) (s : State) : State :=
  setSide sd { s.seq.sides.get sd with pendingStart := b } s

/-! ## Train commands (R124, R175) -/

/-- A command joins those of the arrival being worked. -/
def emit (c : TrainCmd) (s : State) : State := { s with seq := { s.seq with outbox := s.seq.outbox ++ [c] } }

/-- The commands of one arrival in the order of R124: START, STOP and TRIP in train order, then LOAD in train order. -/
def commandOrder (cs : List TrainCmd) : List TrainCmd :=
  Train.all.flatMap (fun t => cs.filter (fun c => c.train == t && c.action != .load))
    ++ Train.all.flatMap (fun t => cs.filter (fun c => c.train == t && c.action == .load))

/-- A TRAIN_CMD, kind 0x51: train, action, load (R175). -/
def sendCommand (c : TrainCmd) (s : State) : State :=
  sendField 0x51 (be1n (trainCode c.train) ++ be1 (actionCode c.action) ++ be2 c.load) s

/-- The working of an arrival ends: its commands are handed to the field transmitter (R124). -/
def flush (s : State) : State :=
  let s1 := (commandOrder s.seq.outbox).foldl (fun s c => sendCommand c s) s
  { s1 with seq := { s1.seq with outbox := [] } }

/-! ## Entry into a state (R118, R125, R126) -/

/-- OFFLINE and TRIPPED: the states whose entry and leaving request a run (R125). -/
def outOfUse : TrainState → Bool
  | .offline | .tripped => true
  | .cold | .warm | .starting | .running | .stopping => false

/-- A record on entry into a state: timer and window count 0, and load 0 outside RUNNING (R118). -/
def enteredRec (st : TrainState) (r : TrainRec) : TrainRec :=
  { r with state := st, timer := 0, windowCount := 0, load := if st = .running then r.load else 0 }

/-- A side's start-order list after a train of it enters a state: appended on entry into STARTING, kept on entry into
RUNNING, taken out on entry into any other (R126). -/
def listAfter (t : Train) (st : TrainState) (order : List Train) : List Train :=
  match st with
  | .starting => order.erase t ++ [t]
  | .running => order
  | .offline | .cold | .warm | .stopping | .tripped => order.erase t

/-- A train enters a state: its record and its list change, the change is published to the heat store unit at once, and a
run is requested on a change into or out of OFFLINE or TRIPPED (R118, R125, R126). -/
def enterState (t : Train) (st : TrainState) (s : State) : State :=
  let r := s.seq.trains.get t
  let side := s.seq.sides.get t.side
  let s1 := takeTrainStates
    (setSide t.side { side with order := listAfter t st side.order } (setTrain t (enteredRec st r) s))
  if outOfUse r.state || outOfUse st then requestRun s1 else s1

/-- The start limit of a start made from a state (R119). -/
def startLimitFrom (w : WorkingSet) : TrainState → Int
  | .warm => w.warmStartMarks
  | .cold | .offline | .starting | .running | .stopping | .tripped => w.coldStartMarks

/-- A start of a COLD or WARM train (R119). -/
def startTrain (t : Train) (s : State) : State :=
  let r := s.seq.trains.get t
  emit ⟨t, .start, 0⟩
    (enterState t .starting (setTrain t { r with startLimit := startLimitFrom s.ws r.state } s))

/-- A stop of a STARTING or RUNNING train (R122). -/
def stopTrain (t : Train) (s : State) : State := emit ⟨t, .stop, 0⟩ (enterState t .stopping s)

/-- A train enters TRIPPED with a cause, and a TRIP command is sent (R118, R121, R123). -/
def enterTripped (t : Train) (cause : TripCause) (s : State) : State :=
  emit ⟨t, .trip, 0⟩ (enterState t .tripped (setTrain t { s.seq.trains.get t with cause := cause } s))

/-! ## Delivered sums (R113, R125) -/

/-- The sum of the commanded loads of a side's RUNNING trains (R125). -/
def deliveredSum (ts : PerTrain TrainRec) (sd : Side) : Int :=
  (sd.trains.map (fun t => if (ts.get t).state = .running then (ts.get t).load else 0)).sum

/-- Shortfall and overdelivery formed anew from the effective target and the delivered sum (R113). -/
def formShortfall (d : DispatchRec) : DispatchRec :=
  { d with shortfall := max 0 (d.effective - d.delivered), overdelivery := max 0 (d.delivered - d.effective) }

/-- The dispatch record replaced. -/
def setRecord (r : PerSide DispatchRec) (s : State) : State := { s with clock := { s.clock with record := r } }

/-- The sequencer reports a side's delivered sum, and the dispatch clock forms both sides' shortfall and overdelivery anew
(R113, R125). -/
def reportDelivered (sd : Side) (s : State) : State :=
  let d := s.clock.record.set sd { s.clock.record.get sd with delivered := deliveredSum s.seq.trains sd }
  setRecord (.ofFn (fun x => formShortfall (d.get x))) s

/-! ## The rotation arbiter (R127) -/

/-- A train is eligible in a pass for the state given (R127). DEDUCED: the permit line tested is the line as driven (R150), so
a rise allows starts whichever block takes it first (log entry 41). -/
def eligible (s : State) (st : TrainState) (t : Train) : Bool :=
  (s.seq.trains.get t).state == st && !(s.seq.trains.get t).heldOut
    && inWindow s.ws t s.meas.table.pressure.value && s.permits.get t.side

/-- The first phase, of `n` from `ph` on, that names a train eligible in a pass, with that train (R127). -/
def walk (s : State) (st : TrainState) (sd : Side) : Nat → Fin 16 → Option (Fin 16 × Train)
  | 0, _ => none
  | n + 1, ph =>
    match rotationTrain s.ws sd ph with
    | some t => if t.side = sd ∧ eligible s st t then some (ph, t) else walk s st sd n (ph + 1)
    | none => walk s st sd n (ph + 1)

/-- The arbiter's winner: the WARM pass, then the COLD pass, each over the 16 phases from the pointer (R127). -/
def arbiter (s : State) (sd : Side) : Option (Fin 16 × Train) :=
  match walk s .warm sd 16 (s.seq.sides.get sd).pointer with
  | some x => some x
  | none => walk s .cold sd 16 (s.seq.sides.get sd).pointer

/-- A winner is started and the pointer moves to the phase after the one taken (R127). -/
def startWinner (sd : Side) (ph : Fin 16) (t : Train) (s : State) : State :=
  startTrain t (setSide sd { s.seq.sides.get sd with pointer := ph + 1 } s)

/-! ## The allocator (R130 to R132) -/

/-- The rating sum of a list of trains. -/
def ratingSum (w : WorkingSet) (l : List Train) : Int := (l.map w.rating.get).sum

/-- The RUNNING trains of a side, oldest first (R126, R132). -/
def runningTrains (s : State) (sd : Side) : List Train :=
  (s.seq.sides.get sd).order.filter (fun t => (s.seq.trains.get t).state == .running)

/-- The newest train of a side: the last of its list (R126). -/
def newest (s : State) (sd : Side) : Option Train := (s.seq.sides.get sd).order.getLast?

/-- Step 1: every train of the list is stopped (R130), in list order. -/
def stopAll : List Train → State → State
  | [], s => s
  | t :: ts, s => stopAll ts (stopTrain t s)

/-- Step 2: while more than one train is RUNNING and T is below their min-load sum, the newest is stopped (R130). -/
def floorStop (sd : Side) : Nat → State → State
  | 0, s => s
  | n + 1, s =>
    let run := runningTrains s sd
    if 1 < run.length ∧ (s.seq.sides.get sd).target < (run.map s.ws.minLoad.get).sum then
      match newest s sd with
      | some t => floorStop sd n (stopTrain t s)
      | none => s
    else s

/-- T exceeds the rating sum of the listed trains (R130). -/
def wantsMore (s : State) (sd : Side) : Bool :=
  ratingSum s.ws (s.seq.sides.get sd).order < (s.seq.sides.get sd).target

/-- Step 3: a pending start is cancelled when T does not exceed the rating sum of the listed trains (R128, R130). -/
def cancelPending (sd : Side) (s : State) : State := if wantsMore s sd then s else setPending sd false s

/-- Step 4: while T exceeds the rating sum of the listed trains and no start is pending, a start is asked; without a winner
it becomes pending (R128, R130). -/
def askStarts (sd : Side) : Nat → State → State
  | 0, s => s
  | n + 1, s =>
    if wantsMore s sd && !(s.seq.sides.get sd).pendingStart then
      match arbiter s sd with
      | some (ph, t) => askStarts sd n (startWinner sd ph t s)
      | none => setPending sd true s
    else s

/-- The share of a RUNNING train before the remainder is given: floor(U × rating / R) (R132, step 1). -/
def baseShare (w : WorkingSet) (run : List Train) (target : Int) (t : Train) : Int :=
  min target (ratingSum w run) * w.rating.get t / ratingSum w run

/-- What is left of U after the base shares (R132, step 2). -/
def shareRemainder (w : WorkingSet) (run : List Train) (target : Int) : Int :=
  min target (ratingSum w run) - (run.map (baseShare w run target)).sum

/-- The commanded load of a RUNNING train: its base share, one more for the oldest while the remainder lasts, raised to its
min load and lowered to its rating (R132). -/
def trainShare (w : WorkingSet) (run : List Train) (target : Int) (t : Train) : Int :=
  let extra : Int := if (run.idxOf t : Int) < shareRemainder w run target then 1 else 0
  min (w.rating.get t) (max (w.minLoad.get t) (baseShare w run target t + extra))

/-- A RUNNING train takes a load; a LOAD command goes out when the load differs from the one last commanded, or when the
train has just entered RUNNING (R124, R132). -/
def commandLoad (fresh : List Train) (t : Train) (load : Int) (s : State) : State :=
  let r := s.seq.trains.get t
  let s1 := setTrain t { r with load := load } s
  if r.load = load ∧ t ∉ fresh then s1 else emit ⟨t, .load, load⟩ s1

/-- Step 5: the target shared over the RUNNING trains (R132). `fresh` are the trains that this arrival brought into
RUNNING. -/
def shareSide (fresh : List Train) (sd : Side) (s : State) : State :=
  let run := runningTrains s sd
  let T := (s.seq.sides.get sd).target
  run.foldl (fun s' t => commandLoad fresh t (trainShare s.ws run T t) s') s

/-- Steps 1 to 4 of an evaluation in OPERATE (R130). -/
def allocate (sd : Side) (s : State) : State :=
  if (s.seq.sides.get sd).target = 0 then setPending sd false (stopAll (s.seq.sides.get sd).order s)
  else askStarts sd (sd.trains.length + 1) (cancelPending sd (floorStop sd (s.seq.sides.get sd).order.length s))

/-- An evaluation of a side by its allocator, with the report of its delivered sum (R125, R130). -/
def evaluateFresh (fresh : List Train) (sd : Side) (s : State) : State :=
  match s.mode with
  | .setup => s
  | .manual => reportDelivered sd (shareSide fresh sd s)
  | .operate => reportDelivered sd (shareSide fresh sd (allocate sd s))

/-- An evaluation in an arrival that brought no train into RUNNING. -/
def evaluateSide (sd : Side) (s : State) : State := evaluateFresh [] sd s

/-- The arbiter tried again for a pending start: a winner starts, the flag is cleared and the side is evaluated; `none` when
nothing is started (R128). `fresh` are the trains that this arrival brought into RUNNING. -/
def retried (fresh : List Train) (sd : Side) (s : State) : Option State :=
  if (s.seq.sides.get sd).pendingStart then
    match arbiter s sd with
    | some (ph, t) => some (evaluateFresh fresh sd (startWinner sd ph t (setPending sd false s)))
    | none => none
  else none

/-- The pending start of a side retried in an arrival that brought no train into RUNNING (R128). -/
def retryPending (sd : Side) (s : State) : State := (retried [] sd s).getD s

/-- What follows a change of state of a train of a side: a pending start is retried and the side evaluated (R128, R130). -/
def afterChange (sd : Side) (s : State) : State := evaluateSide sd (retryPending sd s)

/-! ## Effective targets (R130) -/

/-- The dispatch clock hands over the effective targets, and each side is evaluated (R107, R130, R138), the charge side first
(log entry 36). -/
def takeTargets (eff : PerSide Int) (s : State) : State :=
  let s1 := setSide .discharge { s.seq.sides.discharge with target := eff.discharge }
    (setSide .charge { s.seq.sides.charge with target := eff.charge } s)
  flush (evaluateSide .discharge (evaluateSide .charge s1))

/-! ## A publication (R120, R128, R129) -/

/-- A report is acted on when its quality is GOOD or HELD (R120). -/
def confirming : Quality → Bool
  | .good | .held => true
  | .substituted | .degraded | .stale => false

/-- The state a train's report brings it into, if it is acted on (R120). -/
def confirmedState (st : TrainState) (m : Measured TrainReport) : Option TrainState :=
  if confirming m.quality then
    match st, m.value with
    | .starting, .online => some .running
    | .stopping, .stopped => some .warm
    | _, _ => none
  else none

/-- The state the published report brings a train into. -/
def confirmedBy (s : State) (t : Train) : Option TrainState :=
  confirmedState (s.seq.trains.get t).state (s.meas.table.report.get t)

/-- The reports of a publication worked train by train (R120). -/
def confirmTrains : List Train → State → State
  | [], s => s
  | t :: ts, s =>
    match confirmedBy s t with
    | some st => confirmTrains ts (enterState t st s)
    | none => confirmTrains ts s

/-- The pressure counts toward window exits: GOOD, SUBSTITUTED or DEGRADED (R129). -/
def countsWindow : Quality → Bool
  | .good | .substituted | .degraded => true
  | .held | .stale => false

/-- A RUNNING train lies outside its window on a publication that counts (R129). -/
def outsideWindow (s : State) (t : Train) : Bool :=
  (s.seq.trains.get t).state == .running && countsWindow s.meas.table.pressure.quality
    && !inWindow s.ws t s.meas.table.pressure.value

/-- A RUNNING train's window count after a publication (R129). -/
def windowCountAfter (s : State) (t : Train) : Nat :=
  let n := (s.seq.trains.get t).windowCount
  if (s.seq.trains.get t).state ≠ .running ∨ !countsWindow s.meas.table.pressure.quality then n
  else if inWindow s.ws t s.meas.table.pressure.value then 0 else min 255 (n + 1)

/-- The train's window count reaches window_scans on this publication (R129). -/
def windowExits (s : State) (t : Train) : Bool := outsideWindow s t && s.ws.windowScans ≤ (windowCountAfter s t : Int)

/-- One train's window count brought up to date, with its stop (R129). -/
def workWindow (t : Train) (s : State) : State :=
  if windowExits s t then stopTrain t s
  else setTrain t { s.seq.trains.get t with windowCount := windowCountAfter s t } s

/-- The window counts worked train by train (R129). -/
def workWindows : List Train → State → State
  | [], s => s
  | t :: ts, s => workWindows ts (workWindow t s)

/-- The trains of a side whose state differs between two train tables. -/
def changedTrains (before after : PerTrain TrainRec) (sd : Side) : List Train :=
  sd.trains.filter (fun t => (before.get t).state != (after.get t).state)

/-- The end of a publication for one side: the pending start retried, and the side evaluated once when a train of it changed
state (R120, R128, R130; log entry 8). The first of these evaluations alone sends the LOAD of a train that entered RUNNING,
since no command is repeated (R124). DEDUCED: a train that enters RUNNING and is stopped in this same publication, by a window
exit or by the evaluation's own steps, gets its STOP and no LOAD (log entry 42). -/
def finishPublication (before : PerTrain TrainRec) (after : PerTrain TrainRec) (sd : Side) (s : State) : State :=
  let changed := changedTrains before after sd
  let fresh := changed.filter (fun t => (after.get t).state == .running)
  match retried fresh sd s with
  | some s1 => if changed = [] then s1 else evaluateSide sd s1
  | none => if changed = [] then s else evaluateFresh fresh sd s

/-- The train sequencer takes a publication: confirmations, window counts, retries and evaluations (R120, R128, R129). -/
def seqTakesScan (s : State) : State :=
  let s1 := workWindows Train.all (confirmTrains Train.all s)
  flush (finishPublication s.seq.trains s1.seq.trains .discharge (finishPublication s.seq.trains s1.seq.trains .charge s1))

/-- A window exit taken for one train: the stop, the retry and the evaluation (R122, R129). -/
def windowExit (t : Train) (s : State) : State := flush (afterChange t.side (stopTrain t s))

/-- WINDOW_EXIT: a RUNNING train's window count reaches window_scans (R129). -/
def execWindowExit (t : Train) (s : State) : Host.Outcome State Fault Refusal :=
  whenRunning (fun s => if windowExits s t then windowExit t s else s) s

/-! ## A mark (R118, R121, R131) -/

/-- STARTING, STOPPING and WARM are timed (R118). -/
def timed : TrainState → Bool
  | .starting | .stopping | .warm => true
  | .offline | .cold | .running | .tripped => false

/-- A train's state timer after a mark (R118). -/
def timerAfter (r : TrainRec) : Nat := if timed r.state then satAdd r.timer 1 else r.timer

/-- The limit of a timed state (R119, R121). -/
def limitOf (w : WorkingSet) (r : TrainRec) : Option Int :=
  match r.state with
  | .starting => some r.startLimit
  | .stopping => some w.stopMarks
  | .warm => some w.warmHoldMarks
  | .offline | .cold | .running | .tripped => none

/-- A timed train's timer has reached its limit. -/
def limitReached (w : WorkingSet) (r : TrainRec) : Bool :=
  match limitOf w r with
  | some l => l ≤ (r.timer : Int)
  | none => false

/-- START_TIMEOUT: TRIPPED, TRIP command, START_FAIL (R121). -/
def startTimesOut (t : Train) (s : State) : State := raiseAlarm .startFail (enterTripped t .startTimeout s)

/-- STOP_TIMEOUT: TRIPPED, TRIP command (R121). -/
def stopTimesOut (t : Train) (s : State) : State := enterTripped t .stopTimeout s

/-- WARM to COLD (R121). -/
def cools (t : Train) (s : State) : State := enterState t .cold s

/-- One train's limit, worked after the timers (R121). -/
def workLimit (t : Train) (s : State) : State :=
  let r := s.seq.trains.get t
  if limitReached s.ws r then
    match r.state with
    | .starting => startTimesOut t s
    | .stopping => stopTimesOut t s
    | .warm => cools t s
    | .offline | .cold | .running | .tripped => s
  else s

/-- The limits worked in train order. -/
def workLimits : List Train → State → State
  | [], s => s
  | t :: ts, s => workLimits ts (workLimit t s)

/-- The timers of all trains after a mark (R118). -/
def countTimers (s : State) : State :=
  { s with seq := { s.seq with
    trains := .ofFn (fun t => { s.seq.trains.get t with timer := timerAfter (s.seq.trains.get t) }) } }

/-- A side evaluated when a train of it changed state (R130). -/
def afterChanges (before after : PerTrain TrainRec) (sd : Side) (s : State) : State :=
  if changedTrains before after sd = [] then s else afterChange sd s

/-- The stop-newest test (R131): no train STARTING, two or more RUNNING, and T within the margin of what would be left. -/
def stopTest (s : State) (sd : Side) : Bool :=
  let run := runningTrains s sd
  let rest := match newest s sd with
    | some t => ratingSum s.ws run - s.ws.rating.get t
    | none => 0
  sd.trains.all (fun t => (s.seq.trains.get t).state != .starting) && 2 ≤ run.length
    && (s.seq.sides.get sd).target * 1000 ≤ rest * s.ws.stopPermille

/-- The stop of the newest train: the count returns to 0 and the side is evaluated (R131). -/
def stopNewestTrain (sd : Side) (s : State) : State :=
  match newest s sd with
  | some t => evaluateSide sd (stopTrain t (setSide sd { s.seq.sides.get sd with stopCount := 0 } s))
  | none => s

/-- The stop count reaches stop_delay_marks on this mark (R131). -/
def stopDue (s : State) (sd : Side) : Bool :=
  s.mode == .operate && stopTest s sd && s.ws.stopDelayMarks ≤ ((s.seq.sides.get sd).stopCount + 1 : Nat)

/-- The stop-newest test of one side on a mark (R131). -/
def workStopTest (sd : Side) (s : State) : State :=
  let x := s.seq.sides.get sd
  if s.mode ≠ .operate then s
  else if stopDue s sd then stopNewestTrain sd s
  else setSide sd { x with stopCount := if stopTest s sd then x.stopCount + 1 else 0 } s

/-- The train sequencer takes a mark: timers, limits, evaluations, then the stop-newest tests (R118, R121, R131; log entry
9). -/
def seqTakesMark (s : State) : State :=
  let s1 := workLimits Train.all (countTimers s)
  let s2 := afterChanges s.seq.trains s1.seq.trains .discharge (afterChanges s.seq.trains s1.seq.trains .charge s1)
  flush (workStopTest .discharge (workStopTest .charge s2))

/-- The train's limit is reached on this mark, in the state given (R121). -/
def limitDue (st : TrainState) (t : Train) (s : State) : Bool :=
  let r := s.seq.trains.get t
  r.state == st && limitReached s.ws { r with timer := timerAfter r }

/-- START_TIMEOUT of a train (R121). -/
def execStartTimeout (t : Train) (s : State) : Host.Outcome State Fault Refusal :=
  whenRunning (fun s => if limitDue .starting t s then flush (afterChange t.side (startTimesOut t s)) else s) s

/-- STOP_TIMEOUT of a train (R121). -/
def execStopTimeout (t : Train) (s : State) : Host.Outcome State Fault Refusal :=
  whenRunning (fun s => if limitDue .stopping t s then flush (afterChange t.side (stopTimesOut t s)) else s) s

/-- WARM_HOLD_EXPIRY of a train (R121). -/
def execWarmHoldExpiry (t : Train) (s : State) : Host.Outcome State Fault Refusal :=
  whenRunning (fun s => if limitDue .warm t s then flush (afterChange t.side (cools t s)) else s) s

/-- STOP_NEWEST of a side: its stop count reaches stop_delay_marks (R131). -/
def execStopNewest (sd : Side) (s : State) : Host.Outcome State Fault Refusal :=
  whenRunning (fun s => if stopDue s sd then flush (stopNewestTrain sd s) else s) s

/-! ## Trip requests (R123) -/

/-- The cause a trip request names (R123). -/
def requestedCause (latched : Bool) : TripCause := if latched then .protection else .fieldFault

/-- The train sequencer takes a trip request (R123). -/
def tripRequest (t : Train) (latched : Bool) (s : State) : State :=
  let r := s.seq.trains.get t
  match r.state with
  | .offline => s
  | .tripped => setTrain t { r with cause := requestedCause latched } s
  | .cold | .warm | .starting | .running | .stopping =>
    flush (afterChange t.side (enterTripped t (requestedCause latched) s))

/-! ## Permit changes (R133) -/

/-- One side of a published permit pair as the sequencer takes it: a drop stops the side (R133). DESIGN CHOICE: all its trains
are stopped before the side is evaluated, once for all these changes of state (R130; log entry 44). -/
def seqSidePermit (sd : Side) (level : Bool) (s : State) : State :=
  let x := s.seq.sides.get sd
  let s1 := setSide sd { x with permitSeen := level } s
  if x.permitSeen && !level then
    let s2 := setPending sd false (stopAll x.order s1)
    if x.order = [] then s2 else evaluateSide sd s2
  else s1

/-- The train sequencer takes a published pair (R133). -/
def seqTakesPermits (p : PerSide Bool) (s : State) : State :=
  flush (seqSidePermit .discharge p.discharge (seqSidePermit .charge p.charge s))

/-! ## Boundaries and mode changes (R135, R139) -/

/-- Every held-out flag cleared. -/
def clearHeldOut (s : State) : State :=
  { s with seq := { s.seq with trains := .ofFn (fun t => { s.seq.trains.get t with heldOut := false }) } }

/-- The held-out trains of a list. -/
def heldOutOf (s : State) (l : List Train) : List Train := l.filter (fun t => (s.seq.trains.get t).heldOut)

/-- A side's pending start retried when a train of it was released (R128). -/
def retryReleased (before : State) (sd : Side) (s : State) : State :=
  if heldOutOf before sd.trains = [] then s else retryPending sd s

/-- The boundary handed to the train sequencer: every hold-out ends, each requests a run, and pending starts are retried
(R128, R135). -/
def seqTakesBoundary (s : State) : State :=
  let s1 := requestRuns (heldOutOf s Train.all) (clearHeldOut s)
  flush (retryReleased s .discharge (retryReleased s .charge s1))

/-- A side at a change of mode: pending start cancelled, stop count 0 (R139). -/
def sideAtModeChange (x : SeqSide) : SeqSide := { x with pendingStart := false, stopCount := 0 }

/-- The sequencer's part of every change of mode (R139). -/
def seqModeChange (s : State) : State :=
  { s with seq := { s.seq with sides := .ofFn (fun sd => sideAtModeChange (s.seq.sides.get sd)) } }

/-- The sequencer's part of an entry into SETUP: hold-outs cleared too, whose run requests are not kept there (R139). -/
def seqEntersSetup (s : State) : State := requestRuns (heldOutOf s Train.all) (clearHeldOut (seqModeChange s))

/-! ## Host train requests (R134 to R137) -/

/-- A request that names one train: malformed or naming none, it is refused BAD_ARG before any other check (7.7). -/
def trainRequest (work : Train → State → Worked) (b : List Byte) (s : State) : Worked :=
  if b.length ≠ 1 then refuse .badArg s
  else match trainOfNumber (byteAt b 0) with
    | none => refuse .badArg s
    | some t => work t s

/-- The held-out flag of a train cleared; a release requests a run (R125, log entry 21). -/
def releaseHeldOut (t : Train) (s : State) : State :=
  let r := s.seq.trains.get t
  if r.heldOut then requestRun (setTrain t { r with heldOut := false } s) else s

/-- The working of TRAIN_START (R134); the permit line tested is the line as driven (log entry 41). -/
def workTrainStart (t : Train) (s : State) : Worked :=
  let st := (s.seq.trains.get t).state
  if s.mode ≠ .manual then refuse .wrongMode s
  else if !isYes s.ws.allowHostStart then refuse .notPermitted s
  else if st = .starting ∨ st = .running ∨ st = .stopping then refuse .busy s
  else if st ≠ .cold ∧ st ≠ .warm then refuse .notReady s
  else if !(s.permits.get t.side && inWindow s.ws t s.meas.table.pressure.value) then refuse .notReady s
  else (reply .ok [], flush (afterChange t.side (startTrain t (releaseHeldOut t s))))

/-- TRAIN_START, kind 0x20 (R134). -/
def execTrainStart (s : State) : Host.Outcome State Fault Refusal :=
  whenRunning (answer 0x20 (trainRequest workTrainStart)) s

/-- A train held out: the flag set requests a run (R125, R135). -/
def holdOut (t : Train) (s : State) : State :=
  let r := s.seq.trains.get t
  if r.heldOut then s else requestRun (setTrain t { r with heldOut := true } s)

/-- An accepted TRAIN_STOP (table of R135). In OPERATE the train is held out, and the side is evaluated after the state
change or the setting of the flag. -/
def acceptedStop (t : Train) (s : State) : State :=
  let r := s.seq.trains.get t
  if r.state = .starting ∨ r.state = .running then
    let s1 := stopTrain t s
    flush (afterChange t.side (if s.mode = .operate then holdOut t s1 else s1))
  else if s.mode = .operate ∧ !r.heldOut then flush (evaluateSide t.side (holdOut t s))
  else s

/-- The working of TRAIN_STOP (R135). -/
def workTrainStop (t : Train) (s : State) : Worked :=
  if s.mode = .setup then refuse .wrongMode s
  else if !isYes s.ws.allowHostStop then refuse .notPermitted s
  else if outOfUse (s.seq.trains.get t).state then refuse .notReady s
  else (reply .ok [], acceptedStop t s)

/-- TRAIN_STOP, kind 0x21 (R135). -/
def execTrainStop (s : State) : Host.Outcome State Fault Refusal :=
  whenRunning (answer 0x21 (trainRequest workTrainStop)) s

/-- The TRAIN_FAULT entry of a train is NORMAL. -/
def faultEntryNormal (s : State) (t : Train) : Bool := (s.prot.entries.trainFault.get t).state == .normal

/-- A train leaves for another state with trip cause NONE, and its side is worked as after any change (R118, R136, R137). -/
def leaveWithoutCause (t : Train) (st : TrainState) (s : State) : State :=
  flush (afterChange t.side (enterState t st (setTrain t { s.seq.trains.get t with cause := .none } s)))

/-- The working of TRAIN_LOCK (table of R136). A hold-out is released before OFFLINE is entered, so the run that the release
requests copies the train as it stood (log entry 21). DEDUCED: a pending start is retried once, after OFFLINE is entered, so the
released train is not tried (log entry 47). -/
def workTrainLock (t : Train) (s : State) : Worked :=
  match (s.seq.trains.get t).state with
  | .starting | .running | .stopping => refuse .busy s
  | .offline => (reply .ok [], s)
  | .cold | .warm => (reply .ok [], leaveWithoutCause t .offline (releaseHeldOut t s))
  | .tripped =>
    if faultEntryNormal s t then (reply .ok [], leaveWithoutCause t .offline (releaseHeldOut t s)) else refuse .notReady s

/-- TRAIN_LOCK, kind 0x22 (R136). -/
def execTrainLock (s : State) : Host.Outcome State Fault Refusal :=
  whenRunning (answer 0x22 (trainRequest workTrainLock)) s

/-- The working of TRAIN_UNLOCK (R136). -/
def workTrainUnlock (t : Train) (s : State) : Worked :=
  if (s.seq.trains.get t).state ≠ .offline then (reply .ok [], s)
  else if faultEntryNormal s t then (reply .ok [], flush (afterChange t.side (enterState t .cold s)))
  else refuse .notReady s

/-- TRAIN_UNLOCK, kind 0x23 (R136). -/
def execTrainUnlock (s : State) : Host.Outcome State Fault Refusal :=
  whenRunning (answer 0x23 (trainRequest workTrainUnlock)) s

/-- The field reports the train STOPPED with quality GOOD or HELD (R137). -/
def reportedStopped (s : State) (t : Train) : Bool :=
  (s.meas.table.report.get t).value == .stopped && confirming (s.meas.table.report.get t).quality

/-- The working of TRAIN_RESET (R137). -/
def workTrainReset (t : Train) (s : State) : Worked :=
  if (s.seq.trains.get t).state = .tripped ∧ faultEntryNormal s t ∧ reportedStopped s t then
    (reply .ok [], leaveWithoutCause t .cold s)
  else refuse .notReady s

/-- TRAIN_RESET, kind 0x24 (R137). -/
def execTrainReset (s : State) : Host.Outcome State Fault Refusal :=
  whenRunning (answer 0x24 (trainRequest workTrainReset)) s

end Sys2Proof.Machine
end

