-- ==== Sys2Proof/Machine/Clock.lean ====
section
/-! DEFINITION. The dispatch clock (chapter 6): staging and effective targets, ramps, the boundary, the shortfall counts, its
part of mode changes, and the requests RESERVE_CALL and MANUAL_TARGET. -/
namespace Sys2Proof.Machine

/-- The dispatch clock's state replaced. -/
def setClock (c : ClockState) (s : State) : State := { s with clock := c }

/-! ## Targets -/

/-- The staging target of each side: the clipped targets of a FIRM or SHORT slot, the requests of a PENDING one (R99). -/
def slotTargets (sl : Slot) : PerSide Int :=
  if sl.entry.feas.status = .pending then ⟨sl.entry.put.charge, sl.entry.put.discharge⟩ else sl.entry.feas.clipped

/-- The staging targets; `none` while the staging slot is EMPTY (R99). -/
def stagingTargets (c : ClockState) : Option (PerSide Int) := c.staging.map slotTargets

/-- The effective targets of a deployment, before the permits (table of R107). -/
def deployed (r : PerSide Int) (d : Int) : PerSide Int :=
  if 0 ≤ d then
    let c := max 0 (r.charge - d)
    ⟨c, r.discharge + (d - (r.charge - c))⟩
  else
    let e := max 0 (r.discharge - -d)
    ⟨r.charge + (-d - (r.discharge - e)), e⟩

/-- A side whose permit line is low has target 0 (R107, R109). -/
def permitted (p : PerSide Bool) (x : PerSide Int) : PerSide Int :=
  ⟨if p.charge then x.charge else 0, if p.discharge then x.discharge else 0⟩

/-- The effective targets by mode (R107, R109). -/
def effectiveTargets (mode : Mode) (c : ClockState) : PerSide Int :=
  match mode with
  | .operate => permitted c.permitsSeen (deployed c.dispatch c.deployment)
  | .manual => permitted c.permitsSeen c.manual
  | .setup => ⟨0, 0⟩

/-- The effective targets in force, from the dispatch record (6.9). -/
def effectiveNow (c : ClockState) : PerSide Int := .ofFn (fun sd => (c.record.get sd).effective)

/-- The effective targets formed anew in the record, with shortfall and overdelivery (R107, R113). -/
def recordTargets (eff : PerSide Int) (s : State) : State :=
  setRecord (.ofFn (fun sd => formShortfall { s.clock.record.get sd with effective := eff.get sd })) s

/-- The effective targets formed anew, and handed to the train sequencer when `always` or when either changed (R107). -/
def formTargets (always : Bool) (s : State) : State :=
  let eff := effectiveTargets s.mode s.clock
  if always || eff != effectiveNow s.clock then takeTargets eff (recordTargets eff s) else s

/-! ## The ramp (R105, R106, R110) -/

/-- The value of a ramp from v0 toward T, truncated toward v0 (R106). -/
def rampValue (v0 target elapsed n : Int) : Int := v0 + ((target - v0) * elapsed).tdiv n

/-- The ramp values of both sides. -/
def rampValues (r : Ramp) (target : PerSide Int) (mark : Int) : PerSide Int :=
  .ofFn (fun sd => rampValue (r.v0.get sd) (target.get sd) (mark - r.s0) r.n)

/-- The interval ramp is due at a mark: the staging slot has a lead of 1 or more and the mark lies within it (R105). -/
def leadReached (L : Int) (c : ClockState) : Bool :=
  match c.staging with
  | some sl => 1 ≤ sl.entry.put.lead && L - sl.entry.put.lead ≤ c.mark
  | none => false

/-- An interval ramp that starts at the mark held, from the given values (R105, R110). -/
def intervalRamp (L : Int) (c : ClockState) (v0 : PerSide Int) : Ramp := ⟨.interval, c.mark, L - c.mark, v0⟩

/-- The ramp started at a mark that is not a boundary (R105). -/
def startRamp (L : Int) (c : ClockState) : ClockState :=
  if c.ramp.kind ≠ .interval ∧ leadReached L c then { c with ramp := intervalRamp L c c.dispatch } else c

/-- The rejoin ramp has run its n marks (R110). -/
def rejoinOver (c : ClockState) : Bool := c.ramp.kind == .rejoin && c.ramp.n ≤ c.mark - c.ramp.s0

/-- A rejoin ramp ends: the kind becomes NONE and the dispatch values equal the active targets (R110). -/
def endRejoin (c : ClockState) : ClockState := { c with ramp := .off, dispatch := activeClipped c }

/-- The dispatch values at a mark that is not a boundary (R106, R110). -/
def advanceRamp (c : ClockState) : ClockState :=
  match c.ramp.kind with
  | .none => { c with dispatch := activeClipped c }
  | .interval => match stagingTargets c with
    | some t => { c with dispatch := rampValues c.ramp t c.mark }
    | none => c
  | .rejoin =>
    if rejoinOver c then endRejoin c else { c with dispatch := rampValues c.ramp (activeClipped c) c.mark }

/-- The ramp's part of a mark that is not a boundary: interval ramps start in OPERATE alone (R105, R109); in SETUP the
dispatch values stay 0 (R104). -/
def rampMark (mode : Mode) (L : Int) (c : ClockState) : ClockState :=
  match mode with
  | .operate => advanceRamp (startRamp L c)
  | .manual => advanceRamp c
  | .setup => c

/-! ## Slots (R100 to R102, R111) -/

/-- What the boundary clip works from: the settings, train table and temperatures as they stand (R101). -/
def clipNow (s : State) : ClipFrom := ⟨s.ws, s.seq.trains, s.meas.table.ambient.value, s.meas.table.reheat.value⟩

/-- The boundary clip: clipped targets, reasons and status written into the slot, the rest as a put writes it (R101). -/
def boundaryClip (s : State) (sl : Slot) : Slot :=
  let e := sl.entry
  let k := clipSteps (clipNow s) s.meas.table.pressure.value (usableHeat s.heat.modules) s.clock.permitsSeen
    ⟨e.put.charge, e.put.discharge⟩
  { sl with
    clip := .boundary
    entry := { e with feas := { e.feas with status := statusOf k.reasons, clipped := k.clipped, reasons := k.reasons } } }

/-- The slot that becomes active at a boundary (table of R100). -/
def activated (s : State) (sl : Slot) : Slot :=
  if sl.entry.feas.status = .pending then boundaryClip s sl else { sl with clip := .projection }

/-- A slot filled by the dispatch clock: no reserve part, revision 0, the feasibility of a put (R102, R111). -/
def policySlot (n : Word32) (request : PerSide Int) (lead : Int) : Slot :=
  { entry := { put := { interval := n, charge := request.charge, discharge := request.discharge, lead := lead,
                        reserve := none },
               revision := 0, putSinceRead := false, feas := pendingFeas }
    source := .policy, clip := .projection }

/-- The book-empty policy's fill for current+1 (R102). -/
def policyFill (s : State) : Slot :=
  if policyIsHold s.ws then policySlot (s.clock.interval + 1) (activeClipped s.clock) 0
  else policySlot (s.clock.interval + 1) ⟨0, 0⟩ (min s.ws.idleLead (s.ws.intervalLength - 1))

/-- The staging slot filled by the policy, with BOOK_EMPTY_NEXT (R102). -/
def fillByPolicy (s : State) : State :=
  raiseAlarm .bookEmptyNext (setClock { s.clock with staging := some (policyFill s) } s)

/-- The staging slot filled from the book, whose entry leaves it, or by the policy (R71, R102). -/
def fillStaging (s : State) : State :=
  match findEntry s.book.entries (s.clock.interval + 1) with
  | some e => removeStaged (setClock { s.clock with staging := some ⟨handedEntry e, .book, .projection⟩ } s)
  | none => fillByPolicy s

/-- The deployment clamped to the band of the active slot; 0 without a reserve part (R103). -/
def clampDeployment (c : ClockState) (d : Int) : Int :=
  match c.active with
  | some sl => match sl.entry.put.reserve with
    | some r => max (-r.down) (min r.up d)
    | none => 0
  | none => 0

/-! ## The boundary (R100 to R104) -/

/-- The interval number advances and the mark count becomes 0 (R97). -/
def advanceInterval (s : State) : State := setClock { s.clock with interval := s.clock.interval + 1, mark := 0 } s

/-- The staging slot becomes the active slot (R100). -/
def turnOver (s : State) : State := setClock { s.clock with active := s.clock.staging.map (activated s) } s

/-- Stages 1 and 2 of R103: the deployment is re-clamped, any ramp ends, and the dispatch values become the new active
targets. -/
def settle (s : State) : State :=
  setClock { s.clock with deployment := clampDeployment s.clock s.clock.deployment, ramp := .off,
                          dispatch := activeClipped s.clock } s

/-- A boundary in OPERATE or MANUAL, its stages in order (R100 to R103). -/
def boundaryInForce (s : State) : State :=
  requestRun (seqTakesBoundary (formTargets true (settle (fillStaging (turnOver (advanceInterval s))))))

/-- A boundary by mode; in SETUP the book's entry for the new current+1 expires (R72, R104). -/
def boundary (s : State) : State :=
  match s.mode with
  | .setup => removeStaged (advanceInterval s)
  | .operate | .manual => boundaryInForce s

/-- The next mark is a boundary (R97). -/
def boundaryDue (s : State) : Bool := s.clock.timeValid && s.ws.intervalLength ≤ s.clock.mark + 1

/-- BOUNDARY: the mark count reaches L (R97, R100). -/
def execBoundary (s : State) : Host.Outcome State Fault Refusal :=
  whenRunning (fun s => if boundaryDue s then boundary s else s) s

/-! ## A mark (R97, R114) -/

/-- A side's shortfall count reaches shortfall_marks on this mark (R114). -/
def undeliveredDue (s : State) (sd : Side) : Bool :=
  s.mode != .setup && 0 < (s.clock.record.get sd).shortfall
    && s.ws.shortfallMarks ≤ ((s.clock.record.get sd).count + 1 : Nat)

/-- A side's shortfall count replaced. -/
def setCount (sd : Side) (n : Nat) (s : State) : State :=
  setRecord (s.clock.record.set sd { s.clock.record.get sd with count := n }) s

/-- UNDELIVERED is raised and the side's count returns to 0 (R114). -/
def undelivered (sd : Side) (s : State) : State := raiseAlarm .undelivered (setCount sd 0 s)

/-- One side's shortfall counted on a mark (R114). -/
def countShortfall (sd : Side) (s : State) : State :=
  if s.mode = .setup then s
  else if undeliveredDue s sd then undelivered sd s
  else setCount sd (if 0 < (s.clock.record.get sd).shortfall then (s.clock.record.get sd).count + 1 else 0) s

/-- The mark count after a mark that is not a boundary: it runs while the time is valid (R97). -/
def countMark (s : State) : State :=
  if s.clock.timeValid then setClock { s.clock with mark := s.clock.mark + 1 } s else s

/-- The ramp and the effective targets on a mark that is not a boundary (R97). -/
def plainMark (s : State) : State :=
  let s1 := countMark s
  formTargets false (setClock (rampMark s1.mode s1.ws.intervalLength s1.clock) s1)

/-- The dispatch clock takes a mark: the boundary or the ramp and the targets, then the shortfall counts (R97, R114; log
entry 10). -/
def clockTakesMark (s : State) : State :=
  countShortfall .discharge (countShortfall .charge (if boundaryDue s then boundary s else plainMark s))

/-- UNDELIVERED of a side: its shortfall count reaches shortfall_marks (R114). -/
def execUndelivered (sd : Side) (s : State) : Host.Outcome State Fault Refusal :=
  whenRunning (fun s => if undeliveredDue s sd then undelivered sd s else s) s

/-- The rejoin ramp ends on the next mark (R110): it has run n marks, and no boundary and no interval ramp comes first. -/
def rejoinDue (s : State) : Bool :=
  let c := { s.clock with mark := s.clock.mark + 1 }
  s.mode == .operate && s.clock.timeValid && !boundaryDue s && rejoinOver c && !leadReached s.ws.intervalLength c

/-- The end of a rejoin ramp, with the effective targets formed anew (R107, R110). -/
def rejoinEnd (s : State) : State := formTargets false (setClock (endRejoin s.clock) s)

/-- REJOIN_RAMP_END: the rejoin ramp has run its n marks (R110; log entry 30). -/
def execRejoinRampEnd (s : State) : Host.Outcome State Fault Refusal :=
  whenRunning (fun s => if rejoinDue s then rejoinEnd s else s) s

/-! ## Permit changes and mode changes -/

/-- The dispatch clock takes a published permit pair (R107). -/
def clockTakesPermits (p : PerSide Bool) (s : State) : State :=
  formTargets false (setClock { s.clock with permitsSeen := p } s)

/-- MANUAL entry: the manual targets take the effective targets, the deployment is 0 and any ramp ends (R109). -/
def clockEntersManual (s : State) : State :=
  formTargets true (setClock { s.clock with manual := effectiveNow s.clock, deployment := 0, ramp := .off,
                                            dispatch := activeClipped s.clock } s)

/-- The return ramp from the manual targets, or the step when there is none (R110). -/
def returnRamp (w : WorkingSet) (c : ClockState) : ClockState :=
  if leadReached w.intervalLength c then
    { c with ramp := intervalRamp w.intervalLength c c.manual, dispatch := c.manual }
  else if w.rejoinLead = 0 then { c with dispatch := activeClipped c }
  else { c with ramp := ⟨.rejoin, c.mark, w.rejoinLead, c.manual⟩, dispatch := c.manual }

/-- Return from MANUAL to OPERATE (R110). -/
def clockReturns (s : State) : State := formTargets true (setClock (returnRamp s.ws s.clock) s)

/-- The zero active slot of an OPERATE entry, clipped (R111, step 1). -/
def zeroActive (s : State) : Slot := boundaryClip s (policySlot s.clock.interval ⟨0, 0⟩ 0)

/-- Both slots built on OPERATE entry, and zero targets handed (R111). -/
def clockEntersOperate (s : State) : State :=
  let s1 := fillByPolicy (setClock { s.clock with active := some (zeroActive s) } s)
  formTargets true (setClock { s1.clock with deployment := 0, ramp := .off, dispatch := ⟨0, 0⟩ } s1)

/-- The clock's own part of SETUP entry: slots EMPTY, no ramp, every target and the deployment 0 (R112). -/
def clearedClock (c : ClockState) : ClockState :=
  { c with active := none, staging := none, ramp := .off, deployment := 0, dispatch := ⟨0, 0⟩, manual := ⟨0, 0⟩ }

/-- SETUP entry: cleared, the zero targets handed, the dispatch record reset (R112). -/
def clockEntersSetup (s : State) : State := setRecord (.both .zero) (formTargets true (setClock (clearedClock s.clock) s))

/-! ## Requests -/

/-- The active slot holds an entry with a reserve part (R108). -/
def committed (c : ClockState) : Bool :=
  match c.active with
  | some sl => sl.entry.put.reserve.isSome
  | none => false

/-- The working of RESERVE_CALL (R108). -/
def workReserveCall (b : List Byte) (s : State) : Worked :=
  if b.length ≠ 2 then refuse .badArg s
  else if s.mode ≠ .operate then refuse .wrongMode s
  else if !committed s.clock then refuse .notCommitted s
  else
    let d := clampDeployment s.clock (s16At b 0)
    (reply (if d = s16At b 0 then .ok else .okClamped) (be2 d), formTargets false (setClock { s.clock with deployment := d } s))

/-- RESERVE_CALL, kind 0x18 (R108). -/
def execReserveCall (s : State) : Host.Outcome State Fault Refusal := whenRunning (answer 0x18 workReserveCall) s

/-- The working of MANUAL_TARGET (R109). -/
def workManualTarget (b : List Byte) (s : State) : Worked :=
  if b.length ≠ 4 then refuse .badArg s
  else if s.mode ≠ .manual then refuse .wrongMode s
  else if 4000 < u16At b 0 ∨ 4000 < u16At b 2 then refuse .badArg s
  else (reply .ok [], formTargets true (setClock { s.clock with manual := ⟨u16At b 0, u16At b 2⟩ } s))

/-- MANUAL_TARGET, kind 0x19 (R109). -/
def execManualTarget (s : State) : Host.Outcome State Fault Refusal := whenRunning (answer 0x19 workManualTarget) s

end Sys2Proof.Machine
end

