-- ==== Sys2Proof/Machine/Protect.lean ====
section
/-! DEFINITION. The protection unit (chapter 8): evaluation of the 22 entries, the five stages of an arrival, the permit
lines, the trip list, and the requests PROT_RECOVER and TRIP_LIST_CLEAR. -/
namespace Sys2Proof.Machine

/-! ## Quantities and conditions (8.1) -/

/-- The quantity of an entry as it stands, `none` where no rate exists; a boolean quantity is 1 for true (R140, R143). -/
def quantity (s : State) : ProtEntry → Option Int
  | .cavHigh | .cavLow => some s.meas.table.pressure.value
  | .cavRiseRate | .cavFallRate => s.meas.rate
  | .pressSensors => some (flagCode s.meas.pressSensors)
  | .reheatLow => some s.meas.table.reheat.value
  | .noHeatSink => some (flagCode s.heat.sinkHanded)
  | .moduleHot m => some (s.meas.table.top.get m).value
  | .fieldLoss => some (flagCode s.meas.fieldLoss)
  | .esd => some (flagCode !s.esdIn)
  | .trainFault t => some (flagCode ((s.meas.table.report.get t).value == .fault))

/-- The condition of an entry for a value (8.1); `active` is the discharge side activity flag. -/
def condition (w : WorkingSet) (active : Bool) (e : ProtEntry) (v : Int) : Bool :=
  match e with
  | .cavHigh | .cavRiseRate | .moduleHot _ => w.threshold.get e < v
  | .cavLow => v < w.threshold.get e
  | .cavFallRate => w.threshold.get e < -v
  | .reheatLow => v < w.reheatMin && active
  | .pressSensors | .noHeatSink | .fieldLoss | .esd | .trainFault _ => v == 1

/-- The recovery condition of an entry for a value (8.1). -/
def recovery (w : WorkingSet) (active : Bool) (e : ProtEntry) (v : Int) : Bool :=
  match e with
  | .cavHigh | .cavRiseRate | .moduleHot _ => v ≤ w.threshold.get e - w.hysteresis.get e
  | .cavLow => w.threshold.get e + w.hysteresis.get e ≤ v
  | .cavFallRate => -v ≤ w.threshold.get e - w.hysteresis.get e
  | .reheatLow => w.reheatMin + w.hysteresis.get e ≤ v || !active
  | .pressSensors | .noHeatSink | .fieldLoss | .esd | .trainFault _ => v != 1

/-! ## Settings that are fixed for ESD (8.2, R153) -/

/-- The delay in evaluations. -/
def entryDelay (w : WorkingSet) (e : ProtEntry) : Int := if e = .esd then 0 else w.delay.get e

/-- The recovery delay in evaluations. -/
def entryRecoveryDelay (w : WorkingSet) (e : ProtEntry) : Int := if e = .esd then 0 else w.recoveryDelay.get e

/-- The latch limit. -/
def entryLatchLimit (w : WorkingSet) (e : ProtEntry) : Int := if e = .esd then 1 else w.latchLimit.get e

/-- The action of an entry by code: 0 ALARM_ONLY, 1 BLOCK_CHARGE, 2 BLOCK_DISCHARGE, 3 BLOCK_BOTH (8.2). MODULE_HOT and
TRAIN_FAULT block nothing and ESD both (R149, R153); that these are also the bytes PROT_READ shows is log entry 43. -/
def entryAction (w : WorkingSet) (e : ProtEntry) : Int :=
  match e with
  | .esd => 3
  | .moduleHot _ | .trainFault _ => 0
  | .cavHigh | .cavLow | .cavRiseRate | .cavFallRate | .pressSensors | .reheatLow | .noHeatSink | .fieldLoss =>
    w.action.get e

/-! ## One evaluation (R145 to R147) -/

/-- What an evaluation brings about beyond the entry's own state. -/
inductive ProtEvent where
  /-- Nothing. -/
  | quiet
  /-- Entry into TRIPPED. -/
  | tripped
  /-- Entry into LATCHED. -/
  | latched
  /-- A return from TRIPPED or RECOVERING to NORMAL. -/
  | cleared
deriving DecidableEq, Repr

/-- A trip: the trip count is incremented and decides between TRIPPED and LATCHED (R147). -/
def tripEntry (limit : Int) (r : EntryRec) : EntryRec × ProtEvent :=
  let n := min 255 (r.tripCount + 1)
  if limit ≠ 0 ∧ limit ≤ (n : Int) then ({ r with state := .latched, evalCount := 0, tripCount := n, normalMarks := 0 }, .latched)
  else ({ r with state := .tripped, evalCount := 0, tripCount := n, normalMarks := 0 }, .tripped)

/-- An entry in a state with evaluation count and NORMAL mark count 0. -/
def enterProt (st : ProtState) (r : EntryRec) : EntryRec := { r with state := st, evalCount := 0, normalMarks := 0 }

/-- An entry's transition on its condition and recovery condition (R145, R146, R147). -/
def transition (delay recDelay limit : Int) (cond rec : Bool) (r : EntryRec) : EntryRec × ProtEvent :=
  match r.state with
  | .normal =>
    if cond then (if delay ≤ 0 then tripEntry limit r else (enterProt .pending r, .quiet)) else (r, .quiet)
  | .pending =>
    if cond then
      (if delay ≤ (r.evalCount + 1 : Nat) then tripEntry limit r else ({ r with evalCount := r.evalCount + 1 }, .quiet))
    else (enterProt .normal r, .quiet)
  | .tripped =>
    if rec then (if recDelay ≤ 0 then (enterProt .normal r, .cleared) else (enterProt .recovering r, .quiet))
    else (r, .quiet)
  | .recovering =>
    if rec then
      (if recDelay ≤ (r.evalCount + 1 : Nat) then (enterProt .normal r, .cleared)
       else ({ r with evalCount := r.evalCount + 1 }, .quiet))
    else (enterProt .tripped r, .quiet)
  | .latched => (r, .quiet)

/-- An entry evaluated on a value: the last value is taken, then the transition made (R140). -/
def evaluateEntry (w : WorkingSet) (active : Bool) (e : ProtEntry) (v : Int) (r : EntryRec) : EntryRec × ProtEvent :=
  transition (entryDelay w e) (entryRecoveryDelay w e) (entryLatchLimit w e) (condition w active e v)
    (recovery w active e v) { r with last := some v }

/-- What the evaluation of an entry on its quantity gives; `none` when it is disabled or its quantity is absent (R142,
R143). -/
def evaluation (s : State) (e : ProtEntry) : Option (EntryRec × ProtEvent) :=
  if entryEnabled s.ws e then
    (quantity s e).map (fun v => evaluateEntry s.ws s.heat.active.discharge e v (s.prot.entries.get e))
  else none

/-! ## The stages of an arrival (R144) -/

/-- One entry's record replaced. -/
def setEntryRec (e : ProtEntry) (r : EntryRec) (s : State) : State :=
  { s with prot := { s.prot with entries := s.prot.entries.set e r } }

/-- Stage 1 for a list of entries: each takes its new state; gives what each brought about (R144). -/
def evaluateAll : List ProtEntry → State → List (ProtEntry × ProtEvent) × State
  | [], s => ([], s)
  | e :: es, s =>
    match evaluation s e with
    | some (r, ev) =>
      let rest := evaluateAll es (setEntryRec e r s)
      ((e, ev) :: rest.1, rest.2)
    | none => evaluateAll es s

/-- The trip record of an entry (R154). -/
def tripRecord (s : State) (e : ProtEntry) (latched : Bool) : TripRecord :=
  { seq := s.prot.seqCounter, entry := e, latched := latched, value := ((s.prot.entries.get e).last).getD 0,
    timeValid := s.clock.timeValid, interval := s.clock.interval, mark := s.clock.mark }

/-- A record appended to the trip list, the oldest removed from a full one (R154). -/
def appendTrip (x : TripRecord) (s : State) : State :=
  { s with prot := { s.prot with
    trips := s.prot.trips.drop (s.prot.trips.length - 15) ++ [x], seqCounter := s.prot.seqCounter + 1 } }

/-- Stage 2 for one entry: its trip record and its alarm (R144). -/
def recordTrip (x : ProtEntry × ProtEvent) (s : State) : State :=
  match x.2 with
  | .tripped => raiseAlarm .protTrip (appendTrip (tripRecord s x.1 false) s)
  | .latched => raiseAlarm .protLatch (appendTrip (tripRecord s x.1 true) s)
  | .quiet | .cleared => s

/-- Stage 3 for one entry: the isolation or release request of a MODULE_HOT entry (R151). -/
def moduleRequest (x : ProtEntry × ProtEvent) (s : State) : State :=
  match x.1, x.2 with
  | .moduleHot m, .tripped => isolateModule m s
  | .moduleHot m, .latched => isolateModule m s
  | .moduleHot m, .cleared => releaseModule m s
  | _, _ => s

/-- Stage 4 for one entry: the trip request of a TRAIN_FAULT entry (R152). -/
def trainTripRequest (x : ProtEntry × ProtEvent) (s : State) : State :=
  match x.1, x.2 with
  | .trainFault t, .tripped => tripRequest t false s
  | .trainFault t, .latched => tripRequest t true s
  | _, _ => s

/-- An operation made for each item of a list, in its order. -/
def inOrder {α : Type} (f : α → State → State) : List α → State → State
  | [], s => s
  | x :: xs, s => inOrder f xs (f x s)

/-- An entry's action applies: it is TRIPPED, RECOVERING or LATCHED (R149). -/
def inForce (r : EntryRec) : Bool := r.state == .tripped || r.state == .recovering || r.state == .latched

/-- An action blocks a side (R149). -/
def actionBlocks (a : Int) : Side → Bool
  | .charge => a == 1 || a == 3
  | .discharge => a == 2 || a == 3

/-- The level of a side's permit line (R150). -/
def permitLevel (s : State) (sd : Side) : Bool :=
  s.mode != .setup &&
    ProtEntry.all.all (fun e => !(inForce (s.prot.entries.get e) && actionBlocks (entryAction s.ws e) sd))

/-- A new pair is driven and published to the dispatch clock and the train sequencer, each on its own, in an order taken from
`choice`, and a run is requested (R79, R150; log entry 6). -/
def publishPermits (p : PerSide Bool) (s : State) : State :=
  let s1 := drawChoice { s with permits := p }
  requestRun (if s.choice % 2 = 0 then seqTakesPermits p (clockTakesPermits p s1)
              else clockTakesPermits p (seqTakesPermits p s1))

/-- Stage 5: both lines formed, and a changed pair driven and published (R144, R150). -/
def formPermits (s : State) : State :=
  let p : PerSide Bool := .ofFn (permitLevel s)
  if p = s.permits then s else publishPermits p s

/-- Stages 3 to 5 for what the entries brought about (R144). -/
def laterStages (xs : List (ProtEntry × ProtEvent)) (s : State) : State :=
  formPermits (inOrder trainTripRequest xs (inOrder moduleRequest xs s))

/-- One arrival at the protection unit that carries a list of entries, in entry number order (R143, R144). -/
def protArrival (es : List ProtEntry) (s : State) : State :=
  let r := evaluateAll es s
  laterStages r.1 (inOrder recordTrip r.1 r.2)

/-- The entries evaluated on a publication; the two rates are absent from it while no rate exists (R143). -/
def publicationEntries : List ProtEntry :=
  [.cavHigh, .cavLow, .cavRiseRate, .cavFallRate, .pressSensors, .reheatLow] ++ HeatModule.all.map .moduleHot
    ++ Train.all.map .trainFault

/-! ## Marks (R148) -/

/-- A NORMAL entry's NORMAL mark count after a mark, and its trip count (R148). -/
def normalMark (w : WorkingSet) (e : ProtEntry) (r : EntryRec) : EntryRec :=
  if r.state = .normal then
    let n := satAdd r.normalMarks 1
    { r with normalMarks := n, tripCount := if w.latchClearMarks.get e ≤ (n : Int) then 0 else r.tripCount }
  else r

/-- Every entry's NORMAL mark count on a mark (R148). -/
def countNormalMarks (s : State) : State :=
  { s with prot := { s.prot with entries := .ofFn (fun e => normalMark s.ws e (s.prot.entries.get e)) } }

/-- An entry's NORMAL mark count reaches its latch_clear_marks on this mark (R148). -/
def tripClearDue (s : State) (e : ProtEntry) : Bool :=
  (s.prot.entries.get e).state == .normal
    && s.ws.latchClearMarks.get e ≤ (satAdd (s.prot.entries.get e).normalMarks 1 : Int)

/-- TRIP_COUNT_CLEAR of an entry (R148). -/
def execTripCountClear (e : ProtEntry) (s : State) : Host.Outcome State Fault Refusal :=
  whenRunning (fun s => if tripClearDue s e then setEntryRec e (normalMark s.ws e (s.prot.entries.get e)) s else s) s

/-! ## Expiries (R145, R146) -/

/-- The evaluation of a PENDING entry on its quantity trips it: its count reaches the delay (R145). -/
def delayDue (s : State) (e : ProtEntry) : Bool :=
  (s.prot.entries.get e).state == .pending &&
    match evaluation s e with
    | some (_, ev) => ev == .tripped || ev == .latched
    | none => false

/-- PROT_DELAY_EXPIRY of an entry: it trips, and stages 2 to 5 follow (R145, R147). -/
def execProtDelayExpiry (e : ProtEntry) (s : State) : Host.Outcome State Fault Refusal :=
  whenRunning (fun s => if delayDue s e then protArrival [e] s else s) s

/-- The evaluation of a RECOVERING entry on its quantity returns it to NORMAL: its count reaches the recovery delay
(R146). -/
def recoveryDue (s : State) (e : ProtEntry) : Bool :=
  (s.prot.entries.get e).state == .recovering &&
    match evaluation s e with
    | some (_, ev) => ev == .cleared
    | none => false

/-- PROT_RECOVERY_DELAY_EXPIRY of an entry: it returns to NORMAL, its module is released and the permits are formed (R146,
R151). -/
def execProtRecoveryDelayExpiry (e : ProtEntry) (s : State) : Host.Outcome State Fault Refusal :=
  whenRunning (fun s => if recoveryDue s e then protArrival [e] s else s) s

/-! ## ESD_IN (R153) -/

/-- A new level of ESD_IN while the part runs: a change evaluates ESD (R153). -/
def esdLevel (high : Bool) (s : State) : State :=
  if high = s.esdIn then s else protArrival [.esd] { s with esdIn := high }

/-- ESD_IN_CHANGE: the line takes a level; the part evaluates ESD when it runs, and start-up reads the level otherwise
(R153). -/
def execEsdInChange (high : Bool) (s : State) : Host.Outcome State Fault Refusal :=
  .next (if running s then esdLevel high s else { s with esdIn := high })

/-! ## Disabling an entry (R142) -/

/-- An entry after its enable is written no (R142). -/
def disabledRec (r : EntryRec) : EntryRec × ProtEvent :=
  match r.state with
  | .pending => ({ enterProt .normal r with tripCount := 0 }, .quiet)
  | .tripped | .recovering => ({ enterProt .normal r with tripCount := 0 }, .cleared)
  | .normal | .latched => (r, .quiet)

/-- The protection unit's part of an enable written no: stages from stage 3 (R142, R144). -/
def disableEntry (e : ProtEntry) (s : State) : State :=
  let x := disabledRec (s.prot.entries.get e)
  laterStages [(e, x.2)] (setEntryRec e x.1 s)

/-! ## Requests -/

/-- The value PROT_RECOVER judges an entry by: its last value, and for ESD and FIELD_LOSS the input read now (R155). -/
def judgedValue (s : State) (e : ProtEntry) : Option Int :=
  match e with
  | .esd | .fieldLoss => quantity s e
  | .cavHigh | .cavLow | .cavRiseRate | .cavFallRate | .pressSensors | .reheatLow | .noHeatSink | .moduleHot _
  | .trainFault _ => (s.prot.entries.get e).last

/-- A LATCHED entry is recovered by a PROT_RECOVER that names it (R142, R155). -/
def recovers (s : State) (e : ProtEntry) : Bool :=
  (s.prot.entries.get e).state == .latched &&
    (!entryEnabled s.ws e ||
      match judgedValue s e with
      | some v => recovery s.ws s.heat.active.discharge e v
      | none => false)

/-- A recovered entry: NORMAL with every count 0 (R155). -/
def recoveredRec (r : EntryRec) : EntryRec := { enterProt .normal r with tripCount := 0 }

/-- A LATCHED entry returned to NORMAL. -/
def recoverEntry (e : ProtEntry) (s : State) : State := setEntryRec e (recoveredRec (s.prot.entries.get e)) s

/-- The entries, in number order, that are LATCHED. -/
def latchedEntries (s : State) : List ProtEntry := ProtEntry.all.filter (fun e => (s.prot.entries.get e).state == .latched)

/-- The entries a PROT_RECOVER body names: `none` when it is malformed (R155, order 1). -/
def namedEntries (b : List Byte) : Option (List ProtEntry) :=
  if 1 ≤ byteAt b 0 ∧ byteAt b 0 ≤ 22 ∧ b.length = 1 + byteAt b 0 then
    (b.drop 1).mapM (fun (x : Byte) => entryOfNumber (x.toNat : Int))
  else none

/-- The accepted recovery of the named entries: those whose recovery condition holds, then stages 3 to 5 (R155). -/
def recoverNamed (es : List ProtEntry) (s : State) : State :=
  let rs := ProtEntry.all.filter (fun e => es.contains e && recovers s e)
  laterStages (rs.map (fun e => (e, .cleared))) (inOrder recoverEntry rs s)

/-- The working of PROT_RECOVER (R155). -/
def workProtRecover (b : List Byte) (s : State) : Worked :=
  match namedEntries b with
  | none => refuse .badArg s
  | some es =>
    if s.mode = .setup ∨ isYes s.ws.allowRecoverOnline then
      let s1 := recoverNamed es s
      (reply .ok (beList (fun e => be1n (entryNumber e)) (latchedEntries s1)), s1)
    else refuse .notPermitted s

/-- PROT_RECOVER, kind 0x2C (R155). -/
def execProtRecover (s : State) : Host.Outcome State Fault Refusal := whenRunning (answer 0x2C workProtRecover) s

/-- The working of TRIP_LIST_CLEAR (R154). -/
def workTripListClear (s : State) : Worked :=
  (reply .ok (be1n s.prot.trips.length), { s with prot := { s.prot with trips := [] } })

/-- TRIP_LIST_CLEAR, kind 0x2D (R154). -/
def execTripListClear (s : State) : Host.Outcome State Fault Refusal :=
  whenRunning (answer 0x2D (bare workTripListClear)) s

end Sys2Proof.Machine
end

