-- ==== Sys2Proof/Machine/Measure.lean ====
section
/-! DEFINITION. The measurement unit (chapter 1): acceptance by scan number, transducer validation, the measurement table, the
ring and the rate, field loss; and the publication of an accepted scan to its consumers. -/
namespace Sys2Proof.Machine

/-- The measurement unit's state replaced. -/
def setMeas (m : MeasState) (s : State) : State := { s with meas := m }

/-! ## Acceptance (R2) -/

/-- How a scan number is judged (R2). -/
inductive Judgement where
  /-- Duplicate or old. -/
  | discard
  /-- Accepted with a step count and the g it was judged by; no g is formed while the last scan number is UNDEFINED. -/
  | accept (steps : Int) (g : Option Int)
deriving DecidableEq, Repr

/-- A scan number judged against the last (table of R2). -/
def judge (last : Option Word16) (n : Word16) : Judgement :=
  match last with
  | none => .accept 1 none
  | some l =>
    let g : Int := (n - l).toNat
    if g = 0 ∨ 32768 < g then .discard else .accept (min g 25) (some g)

/-- The scans missed by number: g − 1 (R2). -/
def missed (g : Option Int) : Int := (g.map (· - 1)).getD 0

/-- FIELD_GAP is raised: g − 1 reaches gap_alarm (R2). -/
def gapAlarms (w : WorkingSet) (g : Option Int) : Bool :=
  match g with
  | some g => w.gapAlarm ≤ g - 1
  | none => false

/-! ## Transducers (R9 to R15) -/

/-- The median of three values. -/
def median3 (a b c : Int) : Int := max (min a b) (min (max a b) c)

/-- The transducers of a state with a present reading, in number order, with the reading. -/
def present (recs : PerTransducer TransducerRec) (p : PerTransducer (Option Int)) : List (Transducer × Int) :=
  Transducer.all.filterMap (fun t => if (recs.get t).state = .good then (p.get t).map (fun v => (t, v)) else none)

/-- The value formed from the GOOD and present readings: the middle or the mean of three, the mean of two, the one; `none`
without any (tables of R10 and R14). Means are rounded down. -/
def combine (median : Bool) : List (Transducer × Int) → Option Int
  | [(_, a), (_, b), (_, c)] => some (if median then median3 a b c else (a + b + c) / 3)
  | [(_, a), (_, b)] => some ((a + b) / 2)
  | [(_, a)] => some a
  | _ => none

/-- The tie break of R13, when it applies: the pair, and the member counted against. -/
def tieBreak (w : WorkingSet) (previous : Int) : List (Transducer × Int) → Option (List Transducer × Transducer)
  | [(t, a), (u, b)] =>
    if w.devThreshold < ((a - b).natAbs : Int) then
      some ([t, u], if (b - previous).natAbs < (a - previous).natAbs then t else u)
    else none
  | _ => none

/-- A GOOD transducer's scan is deviating (R11). -/
def deviates (w : WorkingSet) (reference reading : Option Int) : Bool :=
  match reference, reading with
  | some r, some v => w.devThreshold < ((v - r).natAbs : Int)
  | _, _ => true

/-- A SUSPECT transducer's scan is within the recovery band (R12). -/
def inBand (w : WorkingSet) (reference reading : Option Int) : Bool :=
  match reference, reading with
  | some r, some v => ((v - r).natAbs : Int) ≤ w.devThreshold / 2
  | _, _ => false

/-- A transducer's run counter is incremented on the scan, rather than set to 0 (R9, R11 to R13). -/
def counted (w : WorkingSet) (reference reading : Option Int) (tie : Option (List Transducer × Transducer))
    (t : Transducer) (st : TransducerState) : Bool :=
  match st with
  | .suspect => inBand w reference reading
  | .good => match tie with
    | some (pair, against) => if pair.contains t then t == against else deviates w reference reading
    | none => deviates w reference reading

/-- The count that changes a transducer's state (R9). -/
def runLimit (w : WorkingSet) : TransducerState → Int
  | .good => w.suspectCount
  | .suspect => w.goodCount

/-- The other state. -/
def TransducerState.other : TransducerState → TransducerState
  | .good => .suspect
  | .suspect => .good

/-- The next increment of a transducer's run counter changes its state (R9). -/
def runDue (w : WorkingSet) (r : TransducerRec) : Bool := runLimit w r.state ≤ (r.run + 1 : Nat)

/-- A transducer's run counter incremented, with the change of state it may make (R9). -/
def countRun (w : WorkingSet) (r : TransducerRec) : TransducerRec :=
  if runDue w r then { r with state := r.state.other, run := 0 } else { r with run := min 255 (r.run + 1) }

/-- The transducer records after an accepted scan (R9 to R13). -/
def transducersAfter (w : WorkingSet) (previous : Int) (recs : PerTransducer TransducerRec)
    (p : PerTransducer (Option Int)) : PerTransducer TransducerRec :=
  let seen := present recs p
  let reference := combine true seen
  let tie := tieBreak w previous seen
  .ofFn (fun t =>
    let r := { recs.get t with last := p.get t }
    if counted w reference (p.get t) tie t r.state then countRun w r else { r with run := 0 })

/-- A transducer became SUSPECT between two tables. -/
def becameSuspect (before after : PerTransducer TransducerRec) : Bool :=
  Transducer.all.any (fun t => (before.get t).state == .good && (after.get t).state == .suspect)

/-- The validated pressure and its quality (R14). -/
def validated (w : WorkingSet) (previous : Int) (recs : PerTransducer TransducerRec) (p : PerTransducer (Option Int)) :
    Measured Int :=
  let used := present recs p
  match combine (combineIsMedian w) used with
  | none => ⟨previous, .held⟩
  | some v =>
    ⟨v, if used.length = 1 then .degraded
        else if Transducer.all.any (fun t => (recs.get t).state == .suspect) then .substituted else .good⟩

/-- The PRESS_SENSORS condition: fewer than two GOOD (R15). -/
def pressSensorsOf (recs : PerTransducer TransducerRec) : Bool :=
  (Transducer.all.filter (fun t => (recs.get t).state == .good)).length < 2

/-! ## Table, ring and rate (R8, R16, R17) -/

/-- A reading entered in the table (R8). -/
def entered {α : Type} (old : Measured α) : Option α → Measured α
  | some v => ⟨v, .good⟩
  | none => { old with quality := .held }

/-- The table after an accepted scan (R8, R14). -/
def tableAfter (t : MeasTable) (pressure : Measured Int) (r : ScanRecord) : MeasTable where
  pressure := pressure
  ambient := entered t.ambient r.ambient
  reheat := entered t.reheat r.reheat
  report := .ofFn (fun x => entered (t.report.get x) (r.report.get x))
  load := .ofFn (fun x => entered (t.load.get x) (r.load.get x))
  top := .ofFn (fun x => entered (t.top.get x) (r.top.get x))
  bottom := .ofFn (fun x => entered (t.bottom.get x) (r.bottom.get x))
  flow := .ofFn (fun x => entered (t.flow.get x) (r.flow.get x))

/-- The missed scans exceed the rate window (R16). -/
def gapClearsRing (w : WorkingSet) (g : Option Int) : Bool :=
  match g with
  | some g => w.rateWindow < g
  | none => false

/-- The ring after an accepted scan, 64 values at most (R16). -/
def ringAfter (cleared : Bool) (pressure : Measured Int) (ring : List Int) : List Int :=
  if pressure.quality = .held then []
  else
    let kept := if cleared then [] else ring
    kept.drop (kept.length - 63) ++ [pressure.value]

/-- The rate of a ring (R17); free for a rate_window below 0, which only an image can bring (log entry 12). -/
def rateOf (ring : List Int) (window : Int) : Option Int :=
  if window < 0 then Config.strayRate ring window
  else if window + 1 ≤ ring.length then
    match ring.getLast?, ring[ring.length - 1 - window.toNat]? with
    | some x, some y => some (x - y)
    | _, _ => none
  else none

/-! ## An accepted scan (R4) -/

/-- The measurement unit after steps 1 to 4 of R4, the scan judged by `g` (R2). -/
def measAfter (w : WorkingSet) (g : Option Int) (r : ScanRecord) (m : MeasState) : MeasState :=
  let recs := transducersAfter w m.table.pressure.value m.transducers r.p
  let pressure := validated w m.table.pressure.value recs r.p
  let ring := ringAfter (m.fieldLoss || gapClearsRing w g) pressure m.ring
  { table := tableAfter m.table pressure r, lastScan := some r.number, markCount := 0, fieldLoss := false,
    duplicates := m.duplicates, gaps := satAdd m.gaps (missed g).toNat, transducers := recs,
    pressSensors := pressSensorsOf recs, ring := ring, rate := rateOf ring w.rateWindow }

/-- An accepted scan taken whole by the measurement unit, with its alarms (R2, R4, R11). -/
def acceptScan (g : Option Int) (r : ScanRecord) (s : State) : State :=
  let m := measAfter s.ws g r s.meas
  raiseIf (becameSuspect s.meas.transducers m.transducers) .sensorSuspect
    (raiseIf (gapAlarms s.ws g) .fieldGap (setMeas m s))

/-- What the consumers do with a publication, each on its own (R4). -/
inductive ScanTask where
  /-- The heat store unit (R39, R48). -/
  | heat
  /-- The NO_HEAT_SINK condition, as the heat store unit handed it, evaluated by the protection unit (R54, R143). -/
  | sink
  /-- The protection unit (R143). -/
  | protection
  /-- The train sequencer (R120, R129). -/
  | sequencer
deriving DecidableEq, Repr

/-- One consumer's part of a publication. -/
def scanTask (steps : Int) : ScanTask → State → State
  | .heat => heatTakesScan steps
  | .sink => protArrival [.noHeatSink]
  | .protection => protArrival publicationEntries
  | .sequencer => seqTakesScan

/-- The order of the consumers: one taken from `choice`, the evaluation of NO_HEAT_SINK after the heat store unit's part,
which hands the condition: what comes between the two changes nothing in it (R4,
R54; log entry 6). -/
def scanOrder (choice : Nat) : List ScanTask :=
  keepBefore .heat .sink (arrange 4 choice [.heat, .sink, .protection, .sequencer])

/-- The publication of an accepted scan worked by its consumers (R4). -/
def publish (steps : Int) (s : State) : State :=
  inOrder (scanTask steps) (scanOrder s.choice) (drawChoice s)

/-- A scan record judged and, when accepted, worked (R2, R4). -/
def takeScan (r : ScanRecord) (s : State) : State :=
  match judge s.meas.lastScan r.number with
  | .discard => setMeas { s.meas with duplicates := satAdd s.meas.duplicates 1 } s
  | .accept steps g => publish steps (acceptScan g r s)

/-- The frame at the head of the field queue leaves it (R172). -/
def dropField (s : State) : State :=
  { s with link := { s.link with queue := { s.link.queue with field := s.link.queue.field.drop 1 } } }

/-- SCAN: the good SCAN frame at the head of the field queue is taken (R2, R172; log entry 2). -/
def execScan (s : State) : Host.Outcome State Fault Refusal :=
  whenRunning (fun s => match s.link.queue.field with
    | f :: _ => if isGoodScan f then dropField (takeScan (scanOf f.body) s) else s
    | [] => s) s

/-! ## Events inside a scan -/

/-- A transducer's record replaced. -/
def setTransducer (p : Transducer) (r : TransducerRec) (s : State) : State :=
  setMeas { s.meas with transducers := s.meas.transducers.set p r } s

/-- SENSOR_SUSPECT of a transducer: its run counter reaches suspect_count (R11). -/
def execSensorSuspect (p : Transducer) (s : State) : Host.Outcome State Fault Refusal :=
  whenRunning (fun s =>
    let r := s.meas.transducers.get p
    if r.state = .good ∧ runDue s.ws r then raiseAlarm .sensorSuspect (setTransducer p (countRun s.ws r) s) else s) s

/-- TRANSDUCER_RETURN_GOOD of a transducer: its run counter reaches good_count (R12). -/
def execTransducerReturnGood (p : Transducer) (s : State) : Host.Outcome State Fault Refusal :=
  whenRunning (fun s =>
    let r := s.meas.transducers.get p
    if r.state = .suspect ∧ runDue s.ws r then setTransducer p (countRun s.ws r) s else s) s

/-! ## Field loss (R5) -/

/-- A quality made STALE, the value kept (R5). -/
def stale {α : Type} (m : Measured α) : Measured α := { m with quality := .stale }

/-- Every quality of the table made STALE (R5). -/
def staleTable (t : MeasTable) : MeasTable where
  pressure := stale t.pressure
  ambient := stale t.ambient
  reheat := stale t.reheat
  report := .ofFn (fun x => stale (t.report.get x))
  load := .ofFn (fun x => stale (t.load.get x))
  top := .ofFn (fun x => stale (t.top.get x))
  bottom := .ofFn (fun x => stale (t.bottom.get x))
  flow := .ofFn (fun x => stale (t.flow.get x))

/-- Field loss begins: the condition, the STALE qualities, the UNDEFINED last number; the mark count stands at
field_loss_marks (R5, log entry 22). DESIGN CHOICE: at 0 for a field_loss_marks below 0, which only an image can bring (log
entry 12). -/
def beginLoss (w : WorkingSet) (m : MeasState) : MeasState :=
  { m with table := staleTable m.table, lastScan := none, markCount := w.fieldLossMarks.toNat, fieldLoss := true }

/-- The next mark begins field loss (R5). -/
def lossDue (s : State) : Bool := !s.meas.fieldLoss && s.ws.fieldLossMarks ≤ (s.meas.markCount + 1 : Nat)

/-- The measurement unit takes a mark (R5). -/
def measTakesMark (s : State) : State :=
  if lossDue s then setMeas (beginLoss s.ws s.meas) s
  else if s.meas.fieldLoss then s
  else setMeas { s.meas with markCount := s.meas.markCount + 1 } s

/-- FIELD_LOSS_BEGIN: the mark count reaches field_loss_marks (R5). -/
def execFieldLossBegin (s : State) : Host.Outcome State Fault Refusal :=
  whenRunning (fun s => if lossDue s then setMeas (beginLoss s.ws s.meas) s else s) s

/-! ## A mark taken by every block that takes marks (6.2) -/

/-- What the blocks do with a mark, each on its own (6.2). -/
inductive MarkTask where
  /-- The measurement unit (R5). -/
  | measurement
  /-- The protection unit's NORMAL mark counts (R148). -/
  | normalMarks
  /-- The protection unit's evaluation of FIELD_LOSS (R143). -/
  | fieldLoss
  /-- The train sequencer (R118, R121, R131). -/
  | sequencer
  /-- The dispatch clock (R97). -/
  | clock
deriving DecidableEq, Repr

/-- One block's part of a mark. -/
def markTask : MarkTask → State → State
  | .measurement => measTakesMark
  | .normalMarks => countNormalMarks
  | .fieldLoss => protArrival [.fieldLoss]
  | .sequencer => seqTakesMark
  | .clock => clockTakesMark

/-- The order of the blocks on a mark: one taken from `choice`, the evaluation of FIELD_LOSS after the measurement unit's
part, since it reads the condition that this mark brings (6.2, R143; log entry 6). -/
def markOrder (choice : Nat) : List MarkTask :=
  keepBefore .measurement .fieldLoss (arrange 5 choice [.measurement, .normalMarks, .fieldLoss, .sequencer, .clock])

/-- A mark of the time base (6.2). -/
def takeMark (s : State) : State := inOrder markTask (markOrder s.choice) (drawChoice s)

/-- MARK (R97). -/
def execMark (s : State) : Host.Outcome State Fault Refusal := whenRunning takeMark s

end Sys2Proof.Machine
end

