-- ==== Sys2Proof/Machine/Modes.lean ====
section
/-! DEFINITION. The mode controller and the configuration store (chapter 9): mode changes, TIME_SET, writes of the working set,
saves, and start-up with the supply and RESET_IN. -/
namespace Sys2Proof.Machine

/-! ## The checks of an OPERATE entry (R36, R57, R159) -/

/-- Every node of a map lies from 100 to 2000 (R20). -/
def nodesOk (m : MapNodes) : Bool := m.toList.all (within 100 2000)

/-- The value a place holds lies within its write range; a setting that does not apply to its item, or is fixed there, is no
setting of the working set (log entry 16). -/
def placeOk (w : WorkingSet) (p : Nat × Nat) : Bool :=
  match settingOf p.1 p.2 with
  | some x => rangeOk w x (settingGet w x) != some false
  | none => true

/-- The first setting out of its write range, in the order of 10.4.1 (R159). -/
def firstOutOfRange (w : WorkingSet) : Option (Nat × Nat) := settingPlaces.find? (fun p => !placeOk w p)

/-- The checks of R159 in order: what a BAD_CONFIG reply carries after its status for the first that fails. -/
def configCheck (w : WorkingSet) : Option (List Byte) :=
  if ¬ w.threshold.cavLow < w.pWl then some [1]
  else if ¬ w.pWl + 100 ≤ w.pWh then some [2]
  else if ¬ w.pWh < w.threshold.cavHigh then some [3]
  else if !(nodesOk w.cmap && nodesOk w.emap) then some [4]
  else if !within 64 4095 w.stiffness then some [5]
  else if ¬ 6 * w.shareMin ≤ 1000 then some [6]
  else (firstOutOfRange w).map (fun p => [7] ++ be1n p.1 ++ be1n p.2)

/-! ## Mode changes (R160 to R162) -/

/-- The mode replaced. -/
def setMode (m : Mode) (s : State) : State := { s with mode := m }

/-- Entry into OPERATE from SETUP, its stages in order (R160). -/
def operateEntry (s : State) : State :=
  requestRun (formPermits (clockEntersOperate (dropBelowHorizon (setMask (defaultMask s.ws) (setMode .operate s)))))

/-- OPERATE to MANUAL (R161). -/
def manualEntry (s : State) : State := formPermits (clockEntersManual (seqModeChange (setMode .manual s)))

/-- MANUAL to OPERATE (R161). -/
def manualReturn (s : State) : State := formPermits (clockReturns (seqModeChange (setMode .operate s)))

/-- The projection engine's part of SETUP entry: the run in flight is abandoned and the summary no longer valid (R95). -/
def projEntersSetup (s : State) : State :=
  { s with proj := { s.proj with run := none, rerun := false, summary := { s.proj.summary with valid := false } } }

/-- The measurement unit's part of SETUP entry: the ring cleared and no rate (R18). -/
def measEntersSetup (s : State) : State := setMeas { s.meas with ring := [], rate := none } s

/-- Entry into SETUP (table of R162; log entry 31). -/
def setupEntry (s : State) : State :=
  formPermits (seqEntersSetup (clockEntersSetup (projEntersSetup (bookEntersSetup (heatEntersSetup
    (measEntersSetup (setMode .setup s)))))))

/-- A train is STARTING, RUNNING or STOPPING (R158). -/
def trainsActive (s : State) : Bool :=
  Train.all.any (fun t => (s.seq.trains.get t).state == .starting || (s.seq.trains.get t).state == .running
    || (s.seq.trains.get t).state == .stopping)

/-- The mode a code names (10.4). -/
def modeOfCode (n : Nat) : Option Mode :=
  match n with
  | 0 => some .setup | 1 => some .operate | 2 => some .manual
  | _ => none

/-- A MODE_SET to OPERATE from SETUP: time valid, then the checks of R159 (R158). -/
def leaveSetup (s : State) : Worked :=
  if !s.clock.timeValid then refuse .noTime s
  else match configCheck s.ws with
    | some rest => (reply .badConfig rest, s)
    | none => (reply .ok [], operateEntry s)

/-- The working of MODE_SET (R158). -/
def workModeSet (b : List Byte) (s : State) : Worked :=
  if b.length ≠ 1 then refuse .badArg s
  else match modeOfCode (byteAt b 0) with
    | none => refuse .badArg s
    | some m =>
      match s.mode, m with
      | .setup, .setup | .operate, .operate | .manual, .manual => (reply .ok [], s)
      | .setup, .operate => leaveSetup s
      | .setup, .manual => refuse .wrongMode s
      | .operate, .manual => (reply .ok [], manualEntry s)
      | .manual, .operate => (reply .ok [], manualReturn s)
      | .operate, .setup | .manual, .setup => if trainsActive s then refuse .busy s else (reply .ok [], setupEntry s)

/-- MODE_SET, kind 0x34 (R158). -/
def execModeSet (s : State) : Host.Outcome State Fault Refusal := whenRunning (answer 0x34 workModeSet) s

/-! ## Time (R165) -/

/-- An accepted TIME_SET: the clock takes the time, then the book drops what lies outside the horizon; a removal requests a
run (R74, R79, R98). -/
def acceptTime (n : Word32) (m : Int) (s : State) : State :=
  let s1 := keepHorizon (setClock { s.clock with timeValid := true, interval := n, mark := m } s)
  if s1.book.entries.length = s.book.entries.length then s1 else requestRun s1

/-- The working of TIME_SET (R165): interval number, mark. -/
def workTimeSet (b : List Byte) (s : State) : Worked :=
  if b.length ≠ 6 then refuse .badArg s
  else if s.mode ≠ .setup then refuse .wrongMode s
  else if ¬ u16At b 4 < s.ws.intervalLength then refuse .badArg s
  else
    let s1 := acceptTime (intervalAt b 0) (u16At b 4) s
    (reply .ok (beInterval s1.clock.interval ++ be2 s1.clock.mark
      ++ be1n (s.book.entries.length - s1.book.entries.length)), s1)

/-- TIME_SET, kind 0x35 (R165). -/
def execTimeSet (s : State) : Host.Outcome State Fault Refusal := whenRunning (answer 0x35 workTimeSet) s

/-! ## Writes of the working set (R164, R166) -/

/-- The working set replaced, with unsaved changes (R164). -/
def writeSet (w : WorkingSet) (s : State) : State := { s with ws := w, store := { s.store with unsaved := true } }

/-- A new interval length: the time becomes invalid, the book is emptied and every group discarded (R75, R98, R166). -/
def newLength (s : State) : State := emptyBook (setClock { s.clock with timeValid := false } s)

/-- What the owning block does at once with a written setting (R37, R141, R142, R166); the others are used as their chapters
state. `old` is the value held before. -/
def settingEffect (x : Setting) (old v : Int) (s : State) : State :=
  match x with
  | .capacity m => takeCapacity m s
  | .intervalLength => if v = old then s else newLength s
  | .enable e => if isYes v then formPermits s else disableEntry e s
  | .threshold _ | .hysteresis _ | .delay _ | .recoveryDelay _ | .latchLimit _ | .latchClearMarks _ | .action _ =>
    formPermits s
  | _ => s

/-- An accepted write of a setting (R164). -/
def writeSetting (x : Setting) (v : Int) (s : State) : State :=
  settingEffect x (settingGet s.ws x) v (writeSet (settingPut s.ws x (storedValue x v)) s)

/-- The reply to an accepted CONFIG_PUT after its status: the value now held, and for interval_length the entries removed
and the time validity (R164, R166). -/
def configReply (x : Setting) (before after : State) : List Byte :=
  be4 (settingGet after.ws x) ++
    match x with
    | .intervalLength => be1n (before.book.entries.length - after.book.entries.length) ++ beFlag after.clock.timeValid
    | _ => []

/-- The working of CONFIG_PUT (R164): setting number, item index, value in four bytes. DEDUCED: a known setting of an existing
protection entry that does not apply to that entry fails the write checks of order 4, not order 1 (R141; log entry 48). -/
def workConfigPut (b : List Byte) (s : State) : Worked :=
  if b.length ≠ 6 then refuse .badArg s
  else match settingOf (byteAt b 0) (byteAt b 1) with
    | none => refuse .badArg s
    | some x =>
      if s.store.status = .saveBusy then refuse .busy s
      else if s.mode ≠ .setup ∧ !writableAnyMode x then refuse .wrongMode s
      else if !writeOk s.ws x (s32At b 2) then refuse .badArg s
      else
        let s1 := writeSetting x (s32At b 2) s
        (reply .ok (configReply x s s1), s1)

/-- CONFIG_PUT, kind 0x36 (R164). -/
def execConfigPut (s : State) : Host.Outcome State Fault Refusal := whenRunning (answer 0x36 workConfigPut) s

/-- The working set with one map node replaced: map 0 is C and 1 is E (R20). -/
def putNode (w : WorkingSet) (map i j : Nat) (v : Int) : WorkingSet :=
  if map = 0 then { w with cmap := w.cmap.setIfInBounds (5 * i + j) v } else { w with emap := w.emap.setIfInBounds (5 * i + j) v }

/-- The working of MAP_PUT (R20, R164): map, i, j, value in two bytes. A map other than C and E is malformed (log entry 17). -/
def workMapPut (b : List Byte) (s : State) : Worked :=
  if b.length ≠ 5 ∨ 1 < byteAt b 0 then refuse .badArg s
  else if s.store.status = .saveBusy then refuse .busy s
  else if s.mode ≠ .setup then refuse .wrongMode s
  else if 6 < byteAt b 1 ∨ 4 < byteAt b 2 ∨ !within 100 2000 (u16At b 3) then refuse .badArg s
  else (reply .ok [], writeSet (putNode s.ws (byteAt b 0) (byteAt b 1) (byteAt b 2) (u16At b 3)) s)

/-- MAP_PUT, kind 0x37 (R20). -/
def execMapPut (s : State) : Host.Outcome State Fault Refusal := whenRunning (answer 0x37 workMapPut) s

/-! ## The configuration store (R167, R168) -/

/-- The CRC of an image's values (R167; the layout of the values is free, log entry 11). -/
def imageCrc (w : WorkingSet) : Word16 := crc16 (Config.imageBytes w)

/-- The working of CONFIG_SAVE (R168). -/
def workConfigSave (s : State) : Worked :=
  if s.store.status = .saveBusy then refuse .busy s
  else (reply .ok [], { s with store := { s.store with status := .saveBusy } })

/-- CONFIG_SAVE, kind 0x38 (R168). -/
def execConfigSave (s : State) : Host.Outcome State Fault Refusal := whenRunning (answer 0x38 (bare workConfigSave)) s

/-- The store after the read-back of a save: IDLE and saved when the CRC formed over the values read matches the one
written, SAVE_FAILED otherwise (R168; log entry 11). A failed save leaves the unsaved-changes flag as it stood (log entry
38). -/
def saved (w : WorkingSet) (crcRead : Word16) (x : StoreState) : StoreState :=
  if crcRead = imageCrc w then { x with status := .idle, unsaved := false, image := .stored w (imageCrc w) }
  else { x with status := .saveFailed, image := .broken }

/-- CONFIG_SAVE_COMPLETE: the save in progress, if there is one, completes (R168). -/
def execConfigSaveComplete (crcRead : Word16) (s : State) : Host.Outcome State Fault Refusal :=
  whenRunning (fun s => if s.store.status = .saveBusy then { s with store := saved s.ws crcRead s.store } else s) s

/-- An image after the supply or RESET_IN fell: partly written when a save was in progress (R168). -/
def cutImage (x : StoreState) : StoreState := if x.status = .saveBusy then { x with image := .broken } else x

/-! ## Start-up (R167, R169) -/

/-- The values of an image that passes its check (R167). -/
def soundImage : ConfigImage → Option WorkingSet
  | .blank | .broken => none
  | .stored w crc => if crc = imageCrc w then some w else none

/-- Every block at its power-on values under a working set, with what start-up does not touch: the supply, the lines, the
image, the frames already sent, the free orders and the waiting commands (R169, stages 1 and 2). -/
def poweredOn (w : WorkingSet) (src : WsSource) (s : State) : State :=
  { power := true, resetIn := s.resetIn, esdIn := s.esdIn, permits := .both false
    meas := .powerOn w.fieldLossMarks, heat := .powerOn, book := .powerOn, proj := .powerOn, clock := .powerOn
    seq := .powerOn, prot := .powerOn, mode := .setup, ws := w
    store := { source := src, unsaved := src == .defaults, status := .idle, image := s.store.image }
    link := { LinkState.powerOn (defaultMask w &&& alarmBits) with hostTx := s.link.hostTx, fieldTx := s.link.fieldTx }
    choice := s.choice, drawn := s.drawn, pending := s.pending }

/-- The load of the image and the power-on values, with CONFIG_DEFAULTED when the image fails its check (R167, R169). -/
def loadImage (s : State) : State :=
  match soundImage s.store.image with
  | some w => poweredOn w .image s
  | none => raiseAlarm .configDefaulted (poweredOn factory .defaults s)

/-- Start-up: the load, the power-on values and the evaluation of ESD on the level present (R153, R169). -/
def startUp (s : State) : State := protArrival [.esd] (loadImage s)

/-- The fall of RESET_IN or of the supply: any operation in flight is abandoned, queued host frames are discarded, and both
permit lines are low with ALERT released (R168, R169; log entry 18). -/
def abandon (s : State) : State :=
  { s with
    permits := .both false
    store := cutImage s.store
    link := { s.link with queue := { s.link.queue with host := [] }, alertLow := false } }

/-- POWER_ON: power is applied; the part starts up unless RESET_IN holds it (R169). Power applied to a part that has it is
taken as a loss before it (log entry 18). -/
def powerOn (s : State) : State :=
  let s1 := { (if s.power then abandon s else s) with power := true }
  if s1.resetIn then startUp s1 else s1

/-- POWER_ON (R169). -/
def execPowerOn (s : State) : Host.Outcome State Fault Refusal := .next (powerOn s)

/-- POWER_LOSS: the part loses its supply; a save in progress ends where it stands (R168; log entry 18). -/
def execPowerLoss (s : State) : Host.Outcome State Fault Refusal := .next { abandon s with power := false }

/-- RESET_IN_FALL: the part is held in reset (R169). -/
def execResetInFall (s : State) : Host.Outcome State Fault Refusal := .next { abandon s with resetIn := false }

/-- RESET_IN_RISE: RESET_IN returns high and the part goes through start-up (R169). A line already high does not rise. -/
def resetInRise (s : State) : State :=
  if s.resetIn then s
  else if s.power then startUp { s with resetIn := true } else { s with resetIn := true }

/-- RESET_IN_RISE (R169). -/
def execResetInRise (s : State) : Host.Outcome State Fault Refusal := .next (resetInRise s)

end Sys2Proof.Machine
end

