-- ==== Sys2Proof/Machine/Reads.lean ====
section
/-! DEFINITION. The reads of the request catalogue (10.4), their layouts by R176: each returns the state as it stands and
changes nothing, but for the counters that LINK_READ clears when it is asked to. -/
namespace Sys2Proof.Machine

/-! ## Shared pieces -/

/-- One field for each item of a list, in its order (R176). -/
def each {α : Type} (l : List α) (f : α → List Byte) : List Byte := l.flatMap f

/-- A two-byte value followed by its quality (R176). -/
def beMeasured (m : Measured Int) : List Byte := be2 m.value ++ be1 (qualityCode m.quality)

/-- Both alarm words: the latched word and the live mask (10.7). -/
def alarmWords (s : State) : List Byte := beWord s.link.alarms ++ beWord s.link.mask

/-! ## STATUS_READ (R94) -/

/-- The run summary, in the order of R90. -/
def summaryBytes (r : RunSummary) : List Byte :=
  be2 r.startPressure ++ be4 r.startHeat ++ be4 r.capTotal ++ be4 r.boundaryPressure ++ be4 r.boundaryHeat
    ++ be1n r.intervals ++ beInterval r.lastInterval ++ beFlag r.valid

/-- The fields of a STATUS_READ reply. -/
def statusFields (s : State) : List Byte :=
  be1 (modeCode s.mode) ++ beFlag s.clock.timeValid ++ be1 (wsSourceCode s.store.source) ++ beFlag s.store.unsaved
    ++ be1 (storeCode s.store.status) ++ beFlag s.proj.run.isSome ++ beFlag s.proj.rerun ++ beWord s.proj.counter
    ++ summaryBytes s.proj.summary ++ alarmWords s

/-- STATUS_READ, kind 0x01 (R94). -/
def execStatusRead (s : State) : Host.Outcome State Fault Refusal := whenRunning (answer 0x01 (bare (readOnly statusFields))) s

/-! ## MEAS_READ (R7, R9) -/

/-- The measurement table with its qualities, in the order of 1.6. -/
def tableBytes (t : MeasTable) : List Byte :=
  beMeasured t.pressure ++ beMeasured t.ambient ++ beMeasured t.reheat
    ++ each Train.all (fun x => be1 (reportCode (t.report.get x).value) ++ be1 (qualityCode (t.report.get x).quality))
    ++ each Train.all (fun x => beMeasured (t.load.get x))
    ++ each HeatModule.all (fun m => beMeasured (t.top.get m))
    ++ each HeatModule.all (fun m => beMeasured (t.bottom.get m))
    ++ each HeatModule.all (fun m => be4 (t.flow.get m).value ++ be1 (qualityCode (t.flow.get m).quality))

/-- The fields of a MEAS_READ reply. -/
def measFields (s : State) : List Byte :=
  tableBytes s.meas.table ++ beOpt2 (s.meas.lastScan.map (fun n => (n.toNat : Int))) ++ beFlag s.meas.fieldLoss
    ++ each Transducer.all (fun p => let r := s.meas.transducers.get p
        be1 (transducerCode r.state) ++ be2n r.run ++ beOpt2 r.last)
    ++ beFlag s.meas.pressSensors ++ be1n s.meas.ring.length ++ beOpt2 s.meas.rate

/-- MEAS_READ, kind 0x02 (R7). -/
def execMeasRead (s : State) : Host.Outcome State Fault Refusal := whenRunning (answer 0x02 (bare (readOnly measFields))) s

/-! ## HEAT_READ (R55) -/

/-- One module's record. -/
def moduleBytes (capacity : Int) (r : ModuleRec) : List Byte :=
  be4 r.stored ++ be2 r.residue ++ beFlag r.known ++ be4 capacity ++ be2 r.fill ++ be1 (roleCode r.role)
    ++ be1 (if r.inService then 0 else 1) ++ be2 r.share ++ be2 r.top ++ be2 r.bottom ++ be4 r.flow

/-- One set: its members and its loop state. -/
def setBytes (x : ModuleSet) : List Byte :=
  beList (fun m => be1n (moduleCode m + 1)) x.members ++ be1 (loopCode x.loop)

/-- The fields of a HEAT_READ reply. -/
def heatFields (s : State) : List Byte :=
  each HeatModule.all (fun m => moduleBytes (s.ws.capacity.get m) (s.heat.modules.get m))
    ++ setBytes s.heat.sets.charge ++ setBytes s.heat.sets.discharge
    ++ beFlag s.heat.active.charge ++ beFlag s.heat.active.discharge ++ be2n s.heat.balanceCount
    ++ beFlag s.heat.noHeatSink

/-- HEAT_READ, kind 0x03 (R55). -/
def execHeatRead (s : State) : Host.Outcome State Fault Refusal := whenRunning (answer 0x03 (bare (readOnly heatFields))) s

/-! ## TRAIN_READ (R138) -/

/-- One train's record, its settings, its report and its measured load. A trip cause NONE is its position 0 (log entry 40). -/
def trainBytes (s : State) (t : Train) : List Byte :=
  let r := s.seq.trains.get t
  be1 (sideCode t.side) ++ be1 (trainStateCode r.state) ++ be2n r.timer ++ be2 r.load ++ beFlag r.heldOut
    ++ be1n r.windowCount ++ be1 (causeCode r.cause) ++ be2 (s.ws.rating.get t) ++ be2 (s.ws.minLoad.get t)
    ++ be2 (s.ws.windowBase.get t) ++ be2 (s.ws.windowLimit.get t)
    ++ be1 (reportCode (s.meas.table.report.get t).value) ++ be1 (qualityCode (s.meas.table.report.get t).quality)
    ++ beMeasured (s.meas.table.load.get t)

/-- One side's list, rotation table and pointer, pending start, stop count and target. -/
def seqSideBytes (s : State) (sd : Side) : List Byte :=
  let x := s.seq.sides.get sd
  beList (fun t => be1n (trainCode t + 1)) x.order ++ each (s.ws.rotation.get sd).toList be1 ++ be1n x.pointer.val
    ++ beFlag x.pendingStart ++ be2n x.stopCount ++ be2 x.target

/-- The fields of a TRAIN_READ reply. -/
def trainFields (s : State) : List Byte :=
  each Train.all (trainBytes s) ++ each Side.all (seqSideBytes s) ++ be1 s.ws.allowHostStart ++ be1 s.ws.allowHostStop

/-- TRAIN_READ, kind 0x04 (R138). -/
def execTrainRead (s : State) : Host.Outcome State Fault Refusal := whenRunning (answer 0x04 (bare (readOnly trainFields))) s

/-! ## BOOK_READ (R77) -/

/-- How many entries one BOOK_READ body holds (10.4). -/
def bookPage : Nat := 14

/-- The entries at or after an interval number, by distance; from the nearest entry when the number lies outside current+2 to
current+192 (R77). -/
def entriesFrom (current n : Word32) (es : List Entry) : List Entry :=
  if (positionRefusal current n).isNone then
    es.filter (fun e => distance current n ≤ distance current e.put.interval)
  else es

/-- One group: its state, 0 FREE or 1 OPEN, and the number of changes it holds. -/
def groupBytes (g : Option (List Change)) : List Byte :=
  match g with
  | some cs => be1 1 ++ be1n cs.length
  | none => be1 0 ++ be1 0

/-- The fields of a BOOK_READ reply from a first interval number. -/
def bookFields (n : Word32) (s : State) : List Byte :=
  let es := entriesFrom s.clock.interval n s.book.entries
  beFlag s.clock.timeValid ++ beInterval s.clock.interval ++ be1n s.book.entries.length
    ++ each GroupId.all (fun g => groupBytes (s.book.groups.get g))
    ++ beList entryBytes (es.take bookPage) ++ beFlag (bookPage < es.length)

/-- The working of BOOK_READ (R77). -/
def workBookRead (b : List Byte) (s : State) : Worked :=
  if b.length ≠ 4 then refuse .badArg s else readOnly (bookFields (intervalAt b 0)) s

/-- BOOK_READ, kind 0x05 (R77). -/
def execBookRead (s : State) : Host.Outcome State Fault Refusal := whenRunning (answer 0x05 workBookRead) s

/-! ## SLOT_READ and DISPATCH_READ (R115) -/

/-- A slot: whether it holds an entry, the entry, its source and its clip source; zeros when EMPTY (R176). -/
def slotBytes (clip : Bool) (x : Option Slot) : List Byte :=
  match x with
  | some sl => be1 1 ++ entryBytes sl.entry ++ be1 (sourceCode sl.source) ++ be1 (if clip then clipCode sl.clip else 0)
  | none => List.replicate 38 0

/-- The fields of a SLOT_READ reply. -/
def slotFields (s : State) : List Byte :=
  beFlag s.clock.timeValid ++ beInterval s.clock.interval ++ be2 s.clock.mark ++ be2 s.ws.intervalLength
    ++ slotBytes true s.clock.active ++ slotBytes false s.clock.staging

/-- SLOT_READ, kind 0x06 (R115). -/
def execSlotRead (s : State) : Host.Outcome State Fault Refusal := whenRunning (answer 0x06 (bare (readOnly slotFields))) s

/-- Both sides of a pair of two-byte values. -/
def beSides (x : PerSide Int) : List Byte := be2 x.charge ++ be2 x.discharge

/-- One field of the dispatch record, for both sides. -/
def recordField (s : State) (f : DispatchRec → Int) : List Byte :=
  be2 (f s.clock.record.charge) ++ be2 (f s.clock.record.discharge)

/-- The fields of a DISPATCH_READ reply. A ramp kind NONE is its position 0 (log entry 40). -/
def dispatchFields (s : State) : List Byte :=
  let c := s.clock
  be1 (modeCode s.mode) ++ be1 (rampCode c.ramp.kind) ++ be2 c.ramp.s0 ++ be2 c.ramp.n ++ beSides c.ramp.v0
    ++ each Side.all (fun sd => beOpt2 ((stagingTargets c).map (fun t => t.get sd)))
    ++ beSides c.dispatch ++ beSides c.manual
    ++ recordField s (fun r => r.effective) ++ be2 c.deployment ++ recordField s (fun r => r.delivered)
    ++ recordField s (fun r => r.shortfall) ++ recordField s (fun r => r.overdelivery) ++ recordField s (fun r => r.count)
    ++ beFlag c.permitsSeen.charge ++ beFlag c.permitsSeen.discharge

/-- DISPATCH_READ, kind 0x07 (R115). -/
def execDispatchRead (s : State) : Host.Outcome State Fault Refusal :=
  whenRunning (answer 0x07 (bare (readOnly dispatchFields))) s

/-! ## PROT_READ and TRIP_LIST_READ (R154, R156) -/

/-- The threshold shown for an entry: REHEAT_LOW's is reheat_min (8.1). -/
def shownThreshold (w : WorkingSet) (e : ProtEntry) : Int := if e = .reheatLow then w.reheatMin else w.threshold.get e

/-- One entry's settings and state, in the order of R156. DEDUCED: the action byte of an entry whose action is fixed is 0 for
MODULE_HOT and TRAIN_FAULT and 3, BLOCK_BOTH, for ESD (log entry 43). -/
def protEntryBytes (s : State) (e : ProtEntry) : List Byte :=
  let r := s.prot.entries.get e
  be1n (entryNumber e) ++ be1 (if e = .esd then 1 else s.ws.enable.get e) ++ be2 (shownThreshold s.ws e)
    ++ be2 (s.ws.hysteresis.get e) ++ be1 (entryDelay s.ws e) ++ be1 (entryRecoveryDelay s.ws e)
    ++ be1 (entryLatchLimit s.ws e) ++ be2 (s.ws.latchClearMarks.get e) ++ be1 (entryAction s.ws e)
    ++ be1 (protStateCode r.state) ++ be1n r.evalCount ++ be1n r.tripCount ++ be2n r.normalMarks ++ beOpt2 r.last

/-- The fields of a PROT_READ reply; a level is 1 for high. -/
def protFields (s : State) : List Byte :=
  each ProtEntry.all (protEntryBytes s) ++ beFlag s.permits.charge ++ beFlag s.permits.discharge ++ beFlag s.esdIn
    ++ be1 s.ws.allowRecoverOnline ++ beWord s.prot.seqCounter

/-- PROT_READ, kind 0x08 (R156). -/
def execProtRead (s : State) : Host.Outcome State Fault Refusal := whenRunning (answer 0x08 (bare (readOnly protFields))) s

/-- One trip record, in the order of R154; the state reached is 0 TRIPPED or 1 LATCHED (log entry 37). -/
def tripBytes (x : TripRecord) : List Byte :=
  beWord x.seq ++ be1n (entryNumber x.entry) ++ be1 (flagCode x.latched) ++ be2 x.value ++ beFlag x.timeValid
    ++ beInterval x.interval ++ be2 x.mark

/-- The fields of a TRIP_LIST_READ reply. DEDUCED: the record count of the catalogue is the one-byte count that R176 puts before
a list, sent once (log entry 45). -/
def tripListFields (s : State) : List Byte := beWord s.prot.seqCounter ++ beList tripBytes s.prot.trips

/-- TRIP_LIST_READ, kind 0x09 (R154). -/
def execTripListRead (s : State) : Host.Outcome State Fault Refusal :=
  whenRunning (answer 0x09 (bare (readOnly tripListFields))) s

/-! ## MAP_READ (R20) -/

/-- One map: its nodes row by row, then its axes. -/
def mapBytes (m : MapNodes) (ax : MapAxes) : List Byte :=
  each m.toList be2 ++ be2 ax.p0 ++ be2 ax.pStep ++ be2 ax.t0 ++ be2 ax.tStep

/-- The fields of a MAP_READ reply. -/
def mapFields (s : State) : List Byte := mapBytes s.ws.cmap s.ws.cmapAxes ++ mapBytes s.ws.emap s.ws.emapAxes

/-- MAP_READ, kind 0x0A (R20). -/
def execMapRead (s : State) : Host.Outcome State Fault Refusal := whenRunning (answer 0x0A (bare (readOnly mapFields))) s

/-! ## LINK_READ (R173) -/

/-- The fields of a LINK_READ reply: the counters in the order of the table of R173, the host link before the field link;
the frames in each queue; both alarm words. -/
def linkFields (s : State) : List Byte :=
  let c := s.link.counters
  be2n c.host.accepted ++ be2n c.field.accepted ++ be2n c.host.errors ++ be2n c.field.errors
    ++ be2n c.host.gapDiscards ++ be2n c.field.gapDiscards ++ be2n c.host.overruns ++ be2n c.field.overruns
    ++ be2n s.meas.duplicates ++ be2n s.meas.gaps
    ++ be1n s.link.queue.host.length ++ be1n s.link.queue.field.length ++ alarmWords s

/-- Every counter set to 0 (R173). -/
def clearCounters (s : State) : State :=
  setMeas { s.meas with duplicates := 0, gaps := 0 }
    { s with link := { s.link with counters := ⟨.zero, .zero⟩ } }

/-- The working of LINK_READ (R173): the clear option. -/
def workLinkRead (b : List Byte) (s : State) : Worked :=
  if b.length ≠ 1 ∨ 1 < byteAt b 0 then refuse .badArg s
  else (reply .ok (linkFields s), if byteAt b 0 = 1 then clearCounters s else s)

/-- LINK_READ, kind 0x0B (R173). -/
def execLinkRead (s : State) : Host.Outcome State Fault Refusal := whenRunning (answer 0x0B workLinkRead) s

end Sys2Proof.Machine
end

