-- ==== Sys2Proof/Machine/Dispatch.lean ====
section
/-! DEFINITION. One arm for each command, each one call of its meaning. -/
namespace Sys2Proof.Machine

/-- What a command does to everything but the queue. -/
def exec (i : Instr) (s : State) : Host.Outcome State Fault Refusal :=
  match i with
  | .powerOn => Sys2Proof.Machine.execPowerOn s
  | .resetInFall => Sys2Proof.Machine.execResetInFall s
  | .resetInRise => Sys2Proof.Machine.execResetInRise s
  | .esdInChange high => Sys2Proof.Machine.execEsdInChange high s
  | .linkFrameRx l bytes => Sys2Proof.Machine.execLinkFrameRx l bytes s
  | .frameGapTimeout l bytes => Sys2Proof.Machine.execFrameGapTimeout l bytes s
  | .fieldFrameDiscard => Sys2Proof.Machine.execFieldFrameDiscard s
  | .scan => Sys2Proof.Machine.execScan s
  | .sensorSuspect p => Sys2Proof.Machine.execSensorSuspect p s
  | .transducerReturnGood p => Sys2Proof.Machine.execTransducerReturnGood p s
  | .windowExit t => Sys2Proof.Machine.execWindowExit t s
  | .balanceUpdate => Sys2Proof.Machine.execBalanceUpdate s
  | .mark => Sys2Proof.Machine.execMark s
  | .fieldLossBegin => Sys2Proof.Machine.execFieldLossBegin s
  | .boundary => Sys2Proof.Machine.execBoundary s
  | .rejoinRampEnd => Sys2Proof.Machine.execRejoinRampEnd s
  | .undelivered sd => Sys2Proof.Machine.execUndelivered sd s
  | .startTimeout t => Sys2Proof.Machine.execStartTimeout t s
  | .stopTimeout t => Sys2Proof.Machine.execStopTimeout t s
  | .warmHoldExpiry t => Sys2Proof.Machine.execWarmHoldExpiry t s
  | .stopNewest sd => Sys2Proof.Machine.execStopNewest sd s
  | .tripCountClear e => Sys2Proof.Machine.execTripCountClear e s
  | .protDelayExpiry e => Sys2Proof.Machine.execProtDelayExpiry e s
  | .protRecoveryDelayExpiry e => Sys2Proof.Machine.execProtRecoveryDelayExpiry e s
  | .projectionRunComplete => Sys2Proof.Machine.execProjectionRunComplete s
  | .configSaveComplete crcRead => Sys2Proof.Machine.execConfigSaveComplete crcRead s
  | .hostBadKind => Sys2Proof.Machine.execHostBadKind s
  | .statusRead => Sys2Proof.Machine.execStatusRead s
  | .measRead => Sys2Proof.Machine.execMeasRead s
  | .heatRead => Sys2Proof.Machine.execHeatRead s
  | .trainRead => Sys2Proof.Machine.execTrainRead s
  | .bookRead => Sys2Proof.Machine.execBookRead s
  | .slotRead => Sys2Proof.Machine.execSlotRead s
  | .dispatchRead => Sys2Proof.Machine.execDispatchRead s
  | .protRead => Sys2Proof.Machine.execProtRead s
  | .tripListRead => Sys2Proof.Machine.execTripListRead s
  | .mapRead => Sys2Proof.Machine.execMapRead s
  | .linkRead => Sys2Proof.Machine.execLinkRead s
  | .entryPut => Sys2Proof.Machine.execEntryPut s
  | .entryDrop => Sys2Proof.Machine.execEntryDrop s
  | .groupOpen => Sys2Proof.Machine.execGroupOpen s
  | .groupAdd => Sys2Proof.Machine.execGroupAdd s
  | .groupLaunch => Sys2Proof.Machine.execGroupLaunch s
  | .groupDiscard => Sys2Proof.Machine.execGroupDiscard s
  | .reserveCall => Sys2Proof.Machine.execReserveCall s
  | .manualTarget => Sys2Proof.Machine.execManualTarget s
  | .trainStart => Sys2Proof.Machine.execTrainStart s
  | .trainStop => Sys2Proof.Machine.execTrainStop s
  | .trainLock => Sys2Proof.Machine.execTrainLock s
  | .trainUnlock => Sys2Proof.Machine.execTrainUnlock s
  | .trainReset => Sys2Proof.Machine.execTrainReset s
  | .moduleService => Sys2Proof.Machine.execModuleService s
  | .heatPreset => Sys2Proof.Machine.execHeatPreset s
  | .protRecover => Sys2Proof.Machine.execProtRecover s
  | .tripListClear => Sys2Proof.Machine.execTripListClear s
  | .alarmClear => Sys2Proof.Machine.execAlarmClear s
  | .alarmMaskSet => Sys2Proof.Machine.execAlarmMaskSet s
  | .modeSet => Sys2Proof.Machine.execModeSet s
  | .timeSet => Sys2Proof.Machine.execTimeSet s
  | .configPut => Sys2Proof.Machine.execConfigPut s
  | .mapPut => Sys2Proof.Machine.execMapPut s
  | .configSave => Sys2Proof.Machine.execConfigSave s
  | .sofDetected l lenHigh lenLow => Sys2Proof.Machine.execSofDetected l lenHigh lenLow s
  | .powerLoss => Sys2Proof.Machine.execPowerLoss s

end Sys2Proof.Machine
end

