-- ==== Sys2Proof/Safety.lean ====
section
/-! DEFINITION. What a safe step and a safe run are: the part never stops, so safety is that every step answers a next
state. With it the terms in which the statements speak: what a block's part of a scan, a mark or a write leaves, written from
the rules and tables of the manual apart from the machine's own functions, and the invariants. -/
namespace Sys2Proof.Machine

/-- The outcome is a next state. -/
def Completes (o : Host.Outcome State Fault Refusal) : Prop := ∃ t, o = .next t

/-- What the heat store unit, the projection engine, the dispatch clock and the train sequencer never write: the supply and
the lines, the measurement and protection units, the mode, the working set and the store, the amendment groups, the waiting
commands, and of the link unit all but the latched alarms, ALERT and the field transmitter. -/
def outerPart (s : State) :=
  (s.power, s.resetIn, s.esdIn, s.permits, s.meas, s.prot, s.mode, s.ws, s.store, s.book.groups, s.pending, s.link.queue,
   s.link.rx, s.link.counters, s.link.mask, s.link.hostTx)

/-- What an arrival at the protection unit never writes: the outer part but for the entries, the trip list and the permit
lines. -/
def farPart (s : State) :=
  (s.power, s.resetIn, s.esdIn, s.meas, s.mode, s.ws, s.store, s.book.groups, s.pending, s.link.queue, s.link.rx,
   s.link.counters, s.link.mask, s.link.hostTx)

/-- The state after a number of steps, when every one of them answers a next state. -/
def runSteps : Nat → State → Option State
  | 0, s => some s
  | n + 1, s =>
    match step s with
    | .next t => runSteps n t
    | .fault _ => none
    | .refused _ => none

/-- A run of any length from a state never stops. -/
def NeverStops (s : State) : Prop := ∀ n, (runSteps n s).isSome = true

/-! ## The terms of the statements -/

/-- What no consumer of a scan or of a mark writes: the far part without the measurement unit. -/
def steadyPart (s : State) :=
  (s.power, s.resetIn, s.esdIn, s.mode, s.ws, s.store, s.book.groups, s.pending, s.link.queue, s.link.rx, s.link.counters,
   s.link.mask, s.link.hostTx)

/-- A request frame of a kind stands at the head of the host queue of a running part (R172, R174). -/
def Asked (kind : Byte) (f : Frame) (s : State) : Prop :=
  running s = true ∧ s.link.queue.host.head? = some f ∧ f.kind = kind

/-- A state in which a request has left its queue and its reply has been handed to the host transmitter, with the kind's top
bit set and the request's tag (R172, R174). -/
def answered (f : Frame) (body : List Byte) (s : State) : State :=
  { s with link := { s.link with
      queue := { s.link.queue with host := s.link.queue.host.tail }
      hostTx := s.link.hostTx ++ [⟨f.kind ||| 0x80, f.tag, body⟩] } }

/-- Between two states a frame of the kind and body given was handed to the field transmitter, and nothing handed before was
lost (R175). -/
def Sent (kind : Byte) (body : List Byte) (s t : State) : Prop :=
  ∃ (sent : List Frame) (tag : Byte), t.link.fieldTx = s.link.fieldTx ++ sent ∧ (⟨kind, tag, body⟩ : Frame) ∈ sent

/-- A quantity of the measurement table takes a reading: a present one with quality GOOD; an absent one leaves the value,
HELD (R8). -/
def Takes {α : Type} (old : Measured α) (r : Option α) (new : Measured α) : Prop :=
  match r with
  | some v => new = ⟨v, .good⟩
  | none => new = ⟨old.value, .held⟩

/-- A command that makes the part go through start-up: power applied with RESET_IN high, or RESET_IN returning high with the
supply present (R169). -/
def StartsUp (c : Instr) (s : State) : Prop :=
  (c = .powerOn ∧ s.power = false ∧ s.resetIn = true) ∨ (c = .resetInRise ∧ s.power = true ∧ s.resetIn = false)

/-- The commands that are the supply or a line, and act on a part that does not run. -/
def drivesALine : Instr → Bool
  | .powerOn | .powerLoss | .resetInFall | .resetInRise | .esdInChange _ => true
  | .linkFrameRx _ _ | .frameGapTimeout _ _ | .fieldFrameDiscard | .scan | .sensorSuspect _ | .transducerReturnGood _
  | .windowExit _ | .balanceUpdate | .mark | .fieldLossBegin | .boundary | .rejoinRampEnd | .undelivered _
  | .startTimeout _ | .stopTimeout _ | .warmHoldExpiry _ | .stopNewest _ | .tripCountClear _ | .protDelayExpiry _
  | .protRecoveryDelayExpiry _ | .projectionRunComplete | .configSaveComplete _ | .hostBadKind | .statusRead | .measRead
  | .heatRead | .trainRead | .bookRead | .slotRead | .dispatchRead | .protRead | .tripListRead | .mapRead | .linkRead
  | .entryPut | .entryDrop | .groupOpen | .groupAdd | .groupLaunch | .groupDiscard | .reserveCall | .manualTarget
  | .trainStart | .trainStop | .trainLock | .trainUnlock | .trainReset | .moduleService | .heatPreset | .protRecover
  | .tripListClear | .alarmClear | .alarmMaskSet | .modeSet | .timeSet | .configPut | .mapPut | .configSave
  | .sofDetected _ _ _ => false

/-- The kind of each host request (10.5); the other commands have none. -/
def requestKind : Instr → Option Byte
  | .statusRead => some 0x01
  | .measRead => some 0x02
  | .heatRead => some 0x03
  | .trainRead => some 0x04
  | .bookRead => some 0x05
  | .slotRead => some 0x06
  | .dispatchRead => some 0x07
  | .protRead => some 0x08
  | .tripListRead => some 0x09
  | .mapRead => some 0x0A
  | .linkRead => some 0x0B
  | .entryPut => some 0x10
  | .entryDrop => some 0x11
  | .groupOpen => some 0x12
  | .groupAdd => some 0x13
  | .groupLaunch => some 0x14
  | .groupDiscard => some 0x15
  | .reserveCall => some 0x18
  | .manualTarget => some 0x19
  | .trainStart => some 0x20
  | .trainStop => some 0x21
  | .trainLock => some 0x22
  | .trainUnlock => some 0x23
  | .trainReset => some 0x24
  | .moduleService => some 0x28
  | .heatPreset => some 0x29
  | .protRecover => some 0x2C
  | .tripListClear => some 0x2D
  | .alarmClear => some 0x30
  | .alarmMaskSet => some 0x31
  | .modeSet => some 0x34
  | .timeSet => some 0x35
  | .configPut => some 0x36
  | .mapPut => some 0x37
  | .configSave => some 0x38
  | .powerOn | .powerLoss | .resetInFall | .resetInRise | .esdInChange _ | .linkFrameRx _ _ | .frameGapTimeout _ _
  | .sofDetected _ _ _ | .fieldFrameDiscard | .scan | .sensorSuspect _ | .transducerReturnGood _ | .windowExit _
  | .balanceUpdate | .mark | .fieldLossBegin | .boundary | .rejoinRampEnd | .undelivered _ | .startTimeout _
  | .stopTimeout _ | .warmHoldExpiry _ | .stopNewest _ | .tripCountClear _ | .protDelayExpiry _
  | .protRecoveryDelayExpiry _ | .projectionRunComplete | .configSaveComplete _ | .hostBadKind => none

/-! ## Terms of the statements: a scan, a mark and a write

Each says what one block's part leaves between the state before and the state after, in the words of its rules. -/

/-- The heat a module whose heat is known would hold after `steps` scan periods at its published flow, before the ends of its
range (R39). -/
def heatSum (steps : Int) (s t : State) (m : HeatModule) : Int :=
  (s.heat.modules.get m).stored
    + ((t.meas.table.flow.get m).value * s.ws.scanMs * steps + (s.heat.modules.get m).residue).tdiv 1000

/-- The heat store unit's part of a publication: every module takes the published temperatures and flow; a known heat moves by
the flow over the steps, its remainder kept, and is held at 0 and at its capacity with residue 0; heat that is not known, the
service of a module and its knowledge stand (R38, R39, R40). -/
def HeatTakesTheScan (steps : Int) (s t : State) : Prop :=
  ∀ m, let r := s.heat.modules.get m
    let r' := t.heat.modules.get m
    let capacity := s.ws.capacity.get m
    let moved := (t.meas.table.flow.get m).value * s.ws.scanMs * steps + r.residue
    let sum := heatSum steps s t m
    r'.known = r.known ∧ r'.inService = r.inService ∧ r'.top = (t.meas.table.top.get m).value ∧
      r'.bottom = (t.meas.table.bottom.get m).value ∧ r'.flow = (t.meas.table.flow.get m).value ∧
      (r.known = false → r'.stored = r.stored ∧ r'.residue = r.residue ∧ r'.fill = r.fill) ∧
      (r.known = true →
        (sum < 0 → r'.stored = 0 ∧ r'.residue = 0) ∧
        (0 ≤ sum → capacity < sum → r'.stored = capacity ∧ r'.residue = 0) ∧
        (0 ≤ sum → sum ≤ capacity → r'.stored = sum ∧ r'.residue = moved - moved.tdiv 1000 * 1000) ∧
        (0 < capacity → r'.fill = r'.stored * 1000 / capacity))

/-- The measurement unit's ring and rate after an accepted scan that lies `onward` of the last one: the ring is cleared by a
HELD pressure, and by field loss or by more missed scans than the rate window before the pressure joins it; it keeps 64
values, and a ring of rate_window + 1 values gives the rate (R16, R17). -/
def RingTakesTheScan (onward : Option Int) (s t : State) : Prop :=
  let p := t.meas.table.pressure
  let kept := if s.meas.fieldLoss || onward.any (fun g => s.ws.rateWindow < g) then [] else s.meas.ring
  t.meas.ring = (if p.quality = .held then [] else (kept ++ [p.value]).drop (kept.length + 1 - 64)) ∧
    (0 ≤ s.ws.rateWindow → t.meas.rate =
      (t.meas.ring.getLast?.bind fun new => t.meas.ring.reverse[s.ws.rateWindow.toNat]?.map fun old => new - old))

/-- The GOOD transducers with a reading in a scan, in number order, each with its reading (R10, R14). -/
def goodReadings (recs : PerTransducer TransducerRec) (r : ScanRecord) : List (Transducer × Int) :=
  [.p1, .p2, .p3].filterMap (fun x =>
    (r.p.get x).bind (fun v => if (recs.get x).state = .good then some (x, v) else none))

/-- A transducer's record after a scan that increments its run counter, or sets it to 0: the reading is taken, and a counter
that reaches the count of the one change open to the transducer makes that change and returns to 0 (R9). -/
def transducerTakes (w : WorkingSet) (increments : Bool) (reading : Option Int) (r : TransducerRec) : TransducerRec :=
  let n := r.run + 1
  match increments, r.state with
  | false, st => ⟨st, 0, reading⟩
  | true, .good => if w.suspectCount ≤ (n : Int) then ⟨.suspect, 0, reading⟩ else ⟨.good, min 255 n, reading⟩
  | true, .suspect => if w.goodCount ≤ (n : Int) then ⟨.good, 0, reading⟩ else ⟨.suspect, min 255 n, reading⟩

/-- The transducers' part of an accepted scan. The reference is formed from the GOOD readings: their median, their mean, the
one, or none. A GOOD transducer counts a scan without reading or reference, or further from it than dev_threshold; a SUSPECT
one a scan within half of that. Of exactly two GOOD readings further apart than dev_threshold, the one further from the
previous validated pressure counts alone, the higher-numbered at the same distance (R9 to R13). SENSOR_SUSPECT is raised
where a transducer becomes SUSPECT (R11), and PRESS_SENSORS is true with fewer than two GOOD (R15). -/
def TransducersTakeTheScan (r : ScanRecord) (s t : State) : Prop :=
  let before := s.meas.transducers
  let after := t.meas.transducers
  let previous := s.meas.table.pressure.value
  let takes := fun (increments : Bool) (x : Transducer) =>
    after.get x = transducerTakes s.ws increments (r.p.get x) (before.get x)
  let further := fun (reference : Option Int) (width : Int) (x : Transducer) =>
    match reference, r.p.get x with
    | some c, some v => decide (width < ((v - c).natAbs : Int))
    | _, _ => true
  let counts := fun (reference : Option Int) (x : Transducer) =>
    match (before.get x).state with
    | .good => takes (further reference s.ws.devThreshold x) x
    | .suspect => takes (!further reference (s.ws.devThreshold / 2) x) x
  (match goodReadings before r with
    | [] => ∀ x, counts none x
    | [(_, a)] => ∀ x, counts (some a) x
    | [(x, a), (y, b)] =>
      if s.ws.devThreshold < ((a - b).natAbs : Int) then
        let firstIsFurther := decide ((b - previous).natAbs < (a - previous).natAbs)
        takes firstIsFurther x ∧ takes (!firstIsFurther) y ∧ ∀ z, z ≠ x → z ≠ y → counts (some ((a + b) / 2)) z
      else ∀ z, counts (some ((a + b) / 2)) z
    | (_, a) :: (_, b) :: (_, c) :: _ => ∀ x, counts (some (max (min a b) (min (max a b) c))) x) ∧
  t.link.alarms &&& 0x0020 = s.link.alarms &&& 0x0020 |||
    (if [Transducer.p1, .p2, .p3].any (fun x => (before.get x).state == .good && (after.get x).state == .suspect)
     then 0x0020 else 0) ∧
  t.meas.pressSensors = decide (([Transducer.p1, .p2, .p3].filter (fun x => (after.get x).state == .good)).length < 2)

/-- The validated pressure of an accepted scan, from the readings of the transducers GOOD after it: kept and HELD without
any, DEGRADED from one, the mean of two, the median or the mean of three by combine_mode; from two or more SUBSTITUTED while
a transducer is SUSPECT and GOOD while none is (R14). -/
def PressureTakesTheScan (r : ScanRecord) (s t : State) : Prop :=
  let p := t.meas.table.pressure
  let quality : Quality :=
    if [Transducer.p1, .p2, .p3].any (fun x => (t.meas.transducers.get x).state == .suspect) then .substituted else .good
  match goodReadings t.meas.transducers r with
  | [] => p = ⟨s.meas.table.pressure.value, .held⟩
  | [(_, a)] => p = ⟨a, .degraded⟩
  | [(_, a), (_, b)] => p = ⟨(a + b) / 2, quality⟩
  | (_, a) :: (_, b) :: (_, c) :: _ =>
    (s.ws.combineMode = 0 → p = ⟨max (min a b) (min (max a b) c), quality⟩) ∧
      (s.ws.combineMode = 1 → p = ⟨(a + b + c) / 3, quality⟩)

/-- Nothing but the report and the window moves a train of a side on a publication: in MANUAL, with no entry but ESD enabled,
no start pending and the permit lines as formed. -/
def OnlyReportsMoveTrains (s : State) : Prop :=
  s.mode = .manual ∧ (∀ e, e ≠ .esd → s.ws.enable.get e = 0) ∧ (∀ sd, (s.seq.sides.get sd).pendingStart = false) ∧
    s.permits = .ofFn (permitLevel s)

/-- The train sequencer's part of a publication. A STARTING train reported ONLINE becomes RUNNING and a STOPPING one reported
STOPPED becomes WARM; the same publication may then stop the one or start and stop the other; without the report neither is
reached (R120, R133). The window count of a train that stays RUNNING is counted up outside its window, set to 0 inside it
and left by a HELD pressure; at window_scans the train is RUNNING no longer (R129). -/
def TrainsTakeTheScan (s t : State) : Prop :=
  ∀ x, let r := s.seq.trains.get x
    let r' := t.seq.trains.get x
    let report := (t.meas.table.report.get x).value
    let p := t.meas.table.pressure
    let counts := p.quality = .good ∨ p.quality = .substituted ∨ p.quality = .degraded
    let inside := s.ws.windowBase.get x ≤ p.value ∧ p.value ≤ s.ws.windowLimit.get x
    (r.state = .starting → report = .online → r'.state = .running ∨ r'.state = .stopping) ∧
      (r.state = .stopping → report = .stopped → r'.state = .warm ∨ r'.state = .starting ∨ r'.state = .stopping) ∧
      (r.state = .starting → report ≠ .online → r'.state ≠ .running) ∧
      (r.state = .stopping → report ≠ .stopped → r'.state ≠ .warm ∧ r'.state ≠ .starting) ∧
      (OnlyReportsMoveTrains s → (counts → inside) →
        (r.state = .starting → report = .online → r'.state = .running ∧ r'.timer = 0) ∧
        (r.state = .stopping → report = .stopped → r'.state = .warm ∧ r'.timer = 0)) ∧
      (r.state = .running → r'.state = .running → (counts → inside → r'.windowCount = 0) ∧
        (counts → ¬ inside → r'.windowCount = min 255 (r.windowCount + 1)) ∧
        (¬ counts → r'.windowCount = r.windowCount)) ∧
      (r.state = .running → counts → ¬ inside → s.ws.windowScans ≤ (min 255 (r.windowCount + 1) : Nat) →
        r'.state ≠ .running)

/-- A protection entry after one evaluation on a value: the table of R145 to R147, with the last value taken (R140). -/
def entryAfter (w : WorkingSet) (active : Bool) (e : ProtEntry) (q : Int) (r : EntryRec) : EntryRec :=
  let n := min 255 (r.tripCount + 1)
  let limit := entryLatchLimit w e
  let tripped : EntryRec := ⟨if limit ≠ 0 ∧ limit ≤ (n : Int) then .latched else .tripped, 0, n, 0, some q⟩
  let into := fun (st : ProtState) => (⟨st, 0, r.tripCount, 0, some q⟩ : EntryRec)
  let stays : EntryRec := { r with last := some q }
  let counted : EntryRec := { stays with evalCount := r.evalCount + 1 }
  match r.state, condition w active e q, recovery w active e q with
  | .normal, false, _ => stays
  | .normal, true, _ => if entryDelay w e ≤ 0 then tripped else into .pending
  | .pending, false, _ => into .normal
  | .pending, true, _ => if entryDelay w e ≤ (r.evalCount + 1 : Nat) then tripped else counted
  | .tripped, _, false => stays
  | .tripped, _, true => if entryRecoveryDelay w e ≤ 0 then into .normal else into .recovering
  | .recovering, _, false => into .tripped
  | .recovering, _, true => if entryRecoveryDelay w e ≤ (r.evalCount + 1 : Nat) then into .normal else counted
  | .latched, _, _ => stays

/-- The entries that tripped between two states. -/
def newTrips (s t : State) : List ProtEntry :=
  ProtEntry.all.filter (fun e =>
    ((s.prot.entries.get e).state == .normal || (s.prot.entries.get e).state == .pending) &&
      ((t.prot.entries.get e).state == .tripped || (t.prot.entries.get e).state == .latched))

/-- The protection unit's part of a publication: every enabled entry but FIELD_LOSS and ESD is evaluated once on its quantity
as published, a rate only where one exists; the others stand; each trip makes a record and raises its alarm, and the permit
lines are formed (R142 to R147, R150, R154). The discharge side activity flag is the one at the time of the evaluation. -/
def EntriesTakeTheScan (s t : State) : Prop :=
  (∀ e, e ≠ .fieldLoss → e ≠ .esd → entryEnabled s.ws e = true → ∀ q, quantity t e = some q →
    ∃ active : Bool, t.prot.entries.get e = entryAfter s.ws active e q (s.prot.entries.get e)) ∧
  (∀ e, e = .fieldLoss ∨ e = .esd ∨ entryEnabled s.ws e = false ∨ quantity t e = none →
    t.prot.entries.get e = s.prot.entries.get e) ∧
  t.prot.seqCounter = s.prot.seqCounter + BitVec.ofNat 16 (newTrips s t).length ∧
  (∀ e ∈ newTrips s t, if (t.prot.entries.get e).state = .latched then t.link.alarms &&& 0x0002 = 0x0002
    else t.link.alarms &&& 0x0001 = 0x0001) ∧
  t.permits = .ofFn (permitLevel t)

/-- The effective targets of a deployment, before the permits (table of R107). -/
def movedTargets (r : PerSide Int) (d : Int) : PerSide Int :=
  if 0 ≤ d then ⟨max 0 (r.charge - d), r.discharge + (d - (r.charge - max 0 (r.charge - d)))⟩
  else ⟨r.charge + (-d - (r.discharge - max 0 (r.discharge + d))), max 0 (r.discharge + d)⟩

/-- Outside SETUP the effective targets in force are those of R107 in OPERATE and of R109 in MANUAL, 0 on a side whose permit
was seen low. -/
def TargetsFollowTheTable (s : State) : Prop :=
  ∀ sd, (s.clock.record.get sd).effective =
    if s.clock.permitsSeen.get sd = false then 0
    else if s.mode = .operate then (movedTargets s.clock.dispatch s.clock.deployment).get sd
    else s.clock.manual.get sd

/-- The ramp's part of a mark that is not a boundary, the time valid: an interval ramp starts in OPERATE where the lead of
staging is reached, runs toward the staging targets, a rejoin ramp toward the active ones until it has run its marks, and
with no ramp the dispatch values are the active targets (R105, R106, R109, R110). -/
def RampTakesTheMark (s t : State) : Prop :=
  let c := s.clock
  let m := c.mark + 1
  let L := s.ws.intervalLength
  let target : PerSide Int := match c.active with
    | some sl => sl.entry.feas.clipped
    | none => ⟨0, 0⟩
  let due := ∃ sl, c.staging = some sl ∧ 1 ≤ sl.entry.put.lead ∧ L - sl.entry.put.lead ≤ m
  let runs := fun (T : PerSide Int) => t.clock.ramp = c.ramp ∧ ∀ sd, t.clock.dispatch.get sd =
    c.ramp.v0.get sd + ((T.get sd - c.ramp.v0.get sd) * (m - c.ramp.s0)).tdiv c.ramp.n
  (s.mode = .operate → due → c.ramp.kind ≠ .interval →
    t.clock.ramp = ⟨.interval, m, L - m, c.dispatch⟩ ∧ t.clock.dispatch = c.dispatch) ∧
  (s.mode = .operate → c.ramp.kind = .interval → ∀ sl, c.staging = some sl →
    runs (if sl.entry.feas.status = .pending then ⟨sl.entry.put.charge, sl.entry.put.discharge⟩
      else sl.entry.feas.clipped)) ∧
  (c.ramp.kind = .none → s.mode = .manual ∨ (s.mode = .operate ∧ ¬ due) →
    t.clock.ramp = c.ramp ∧ t.clock.dispatch = target) ∧
  (s.mode = .operate → c.ramp.kind = .rejoin → ¬ due →
    (c.ramp.n ≤ m - c.ramp.s0 → t.clock.ramp.kind = .none ∧ t.clock.dispatch = target) ∧
    (m - c.ramp.s0 < c.ramp.n → runs target))

/-- The limit of a timed state; the other states have none (R119, R121). -/
def stateLimit (w : WorkingSet) (r : TrainRec) : Option Int :=
  match r.state with
  | .starting => some r.startLimit
  | .stopping => some w.stopMarks
  | .warm => some w.warmHoldMarks
  | .offline | .cold | .running | .tripped => none

/-- The train sequencer's part of a mark for the timed states: a timed train that keeps its state has its timer counted, and a
limit reached ends the state, a STOPPING one in TRIPPED with its cause; below its limit a STARTING train does not trip and a
STOPPING one stays (R118, R121). A STARTING train may be stopped on the same mark, and a stop limit of 1 end that stop
too. -/
def TimersTakeTheMark (s t : State) : Prop :=
  ∀ x, let r := s.seq.trains.get x
    let r' := t.seq.trains.get x
    let n : Nat := min 65535 (r.timer + 1)
    ∀ limit, stateLimit s.ws r = some limit →
      (r'.state = r.state → r'.timer = n) ∧
      (limit ≤ n → r'.state ≠ r.state ∧
        (r.state = .stopping → r'.state = .tripped ∧ r'.cause = .stopTimeout) ∧
        (r.state = .starting → 1 < s.ws.stopMarks →
          (r'.state = .tripped ∧ r'.cause = .startTimeout) ∨ r'.state = .stopping)) ∧
      ((n : Int) < limit → (r.state = .starting → 1 < s.ws.stopMarks → r'.state ≠ .tripped) ∧
        (r.state = .stopping → r'.state = .stopping))

/-- A protection entry after its NORMAL mark count has taken a mark (R148). -/
def entryMarked (w : WorkingSet) (e : ProtEntry) (r : EntryRec) : EntryRec :=
  let n := min 65535 (r.normalMarks + 1)
  if r.state = .normal then
    { r with normalMarks := n, tripCount := if w.latchClearMarks.get e ≤ (n : Int) then 0 else r.tripCount }
  else r

/-- The protection unit's part of a mark: every NORMAL mark count is counted, and FIELD_LOSS alone is evaluated, on the
condition this mark leaves, before or after its count (R143, R148). -/
def EntriesTakeTheMark (s t : State) : Prop :=
  (∀ e, e ≠ .fieldLoss → t.prot.entries.get e = entryMarked s.ws e (s.prot.entries.get e)) ∧
    let q := if t.meas.fieldLoss then 1 else 0
    let r := s.prot.entries.get .fieldLoss
    t.prot.entries.get .fieldLoss =
        (if entryEnabled s.ws .fieldLoss then entryAfter s.ws false .fieldLoss q (entryMarked s.ws .fieldLoss r)
         else entryMarked s.ws .fieldLoss r) ∨
      t.prot.entries.get .fieldLoss =
        (if entryEnabled s.ws .fieldLoss then entryMarked s.ws .fieldLoss (entryAfter s.ws false .fieldLoss q r)
         else entryMarked s.ws .fieldLoss r)

/-- Nothing but the clock moves a shortfall on a mark: FIELD_LOSS is disabled and the permit lines are as formed, no timed
train reaches its limit, and no side has two trains that the stop-newest test could thin out. -/
def NothingElseOnTheMark (s : State) : Prop :=
  s.ws.enable.get .fieldLoss = 0 ∧ s.permits = .ofFn (permitLevel s) ∧
    (∀ x limit, stateLimit s.ws (s.seq.trains.get x) = some limit →
      ((min 65535 ((s.seq.trains.get x).timer + 1) : Nat) : Int) < limit) ∧
    (s.mode = .manual ∨ ∀ sd, (s.seq.sides.get sd).order.length ≤ 1)

/-- A side's shortfall count on a mark: one more while a shortfall stands, 0 and UNDELIVERED where it reaches
shortfall_marks, 0 without a shortfall (R114). -/
def CountsTakeTheMark (s t : State) : Prop :=
  ∀ sd, let d := s.clock.record.get sd
    let n := (t.clock.record.get sd).count
    (d.shortfall ≤ 0 → n = 0) ∧
      (0 < d.shortfall → (d.count + 1 : Int) < s.ws.shortfallMarks → n = d.count + 1) ∧
      (0 < d.shortfall → s.ws.shortfallMarks ≤ (d.count + 1 : Int) → n = 0 ∧ t.link.alarms &&& 0x0010 = 0x0010)

/-- The checks 1 to 6 of an OPERATE entry from SETUP, by number (R159). -/
def OperateCheck (w : WorkingSet) (n : Nat) : Prop :=
  (n = 1 → w.threshold.get .cavLow < w.pWl) ∧ (n = 2 → w.pWl + 100 ≤ w.pWh) ∧
    (n = 3 → w.pWh < w.threshold.get .cavHigh) ∧
    (n = 4 → ∀ x ∈ w.cmap.toList ++ w.emap.toList, 100 ≤ x ∧ x ≤ 2000) ∧
    (n = 5 → 64 ≤ w.stiffness ∧ w.stiffness ≤ 4095) ∧ (n = 6 → 6 * w.shareMin ≤ 1000)

/-- The lowest and the highest value of a setting whose write range does not depend on another setting and is not a list, by
the settings tables of chapters 1 to 9; a setting that does not apply to its entry or is fixed there has none (R141). -/
def writeRange (x : Setting) : Option (Int × Int) :=
  match x with
  | .combineMode | .emptyPolicy | .allowHostStart | .allowHostStop | .allowRecoverOnline => some (0, 1)
  | .gapAlarm | .suspectCount | .goodCount | .windowScans => some (1, 255)
  | .cmapP0 | .emapP0 | .pWl | .pWh | .windowBase _ | .windowLimit _ => some (0, 9000)
  | .cmapPStep | .emapPStep => some (100, 1500)
  | .cmapT0 | .emapT0 | .reheatMin => some (-400, 7000)
  | .cmapTStep | .emapTStep => some (10, 2000)
  | .capture | .emptyPermille | .fullPermille | .stableRange | .wideRange | .shareMin | .stopPermille => some (0, 1000)
  | .shortfallMarks | .coldStartMarks | .warmStartMarks | .stopMarks | .stopDelayMarks => some (1, 7200)
  | .warmHoldMarks | .latchClearMarks _ => some (1, 65535)
  | .scanMs => some (50, 1000)
  | .fieldLossMarks => some (1, 40)
  | .devThreshold => some (2, 1000)
  | .rateWindow => some (8, 64)
  | .stiffness => some (64, 4095)
  | .reheat => some (100, 900)
  | .capacity _ => some (1000000, 400000000)
  | .dischargeCount => some (1, 3)
  | .roleHyst => some (0, 200)
  | .balancePeriod => some (1, 50)
  | .delta => some (1, 100)
  | .shortLookahead => some (1, 16)
  | .idleLead => some (0, 7199)
  | .rejoinLead => some (0, 7200)
  | .rating _ => some (10, 400)
  | .defaultAlarmMask => some (0, 65535)
  | .enable e => if e = .esd then none else some (0, 1)
  | .delay e | .recoveryDelay e => if e = .esd then none else some (0, 255)
  | .latchLimit e => if e = .esd then none else some (0, 7)
  | .threshold e => match e with
    | .cavHigh | .cavLow => some (0, 9000)
    | .cavRiseRate | .cavFallRate => some (1, 1000)
    | .moduleHot _ => some (-400, 7000)
    | .pressSensors | .reheatLow | .noHeatSink | .fieldLoss | .esd | .trainFault _ => none
  | .hysteresis e => match e with
    | .cavHigh | .cavLow | .cavRiseRate | .cavFallRate | .reheatLow | .moduleHot _ => some (0, 1000)
    | .pressSensors | .noHeatSink | .fieldLoss | .esd | .trainFault _ => none
  | .action e => match e with
    | .cavHigh | .cavLow | .cavRiseRate | .cavFallRate | .pressSensors | .reheatLow | .noHeatSink | .fieldLoss =>
      some (0, 3)
    | .moduleHot _ | .esd | .trainFault _ => none
  | .intervalLength | .minLoad _ | .rotation _ _ => none

/-- A value may be written to a setting: it lies in the range of its table; an interval length is one of the four; a min load
is at most the rating and a rating at least the min load of its train; a rotation phase names no train, by 0, or a train of
its side by its number (R117, R141). -/
def MayBeWritten (w : WorkingSet) (x : Setting) (v : Int) : Prop :=
  match x with
  | .intervalLength => v = 600 ∨ v = 1800 ∨ v = 3600 ∨ v = 7200
  | .minLoad t => 0 ≤ v ∧ v ≤ w.rating.get t
  | .rotation sd _ => v = 0 ∨ ∃ t, t.side = sd ∧ v = trainCode t + 1
  | _ => (∃ lo hi, writeRange x = some (lo, hi) ∧ lo ≤ v ∧ v ≤ hi) ∧ ∀ t, x = .rating t → w.minLoad.get t ≤ v

/-! ## Invariants -/

/-- The permit lines are at the levels of R150 while the part runs, and low while it does not (R150, R169). -/
def PermitsFollowTheTable (s : State) : Prop :=
  s.permits = if running s then .ofFn (permitLevel s) else .both false

/-- Each side's start-order list holds its STARTING and RUNNING trains, each once, and no other train (R126). -/
def ListsHoldTheirTrains (s : State) : Prop :=
  ∀ sd, (s.seq.sides.get sd).order.Nodup ∧
    ∀ t, t ∈ (s.seq.sides.get sd).order ↔
      t.side = sd ∧ ((s.seq.trains.get t).state = .starting ∨ (s.seq.trains.get t).state = .running)

/-- The book holds at most 96 entries, nearest first, no two for one interval, all from current+2 to current+192 while the
time is valid, and none while it is not (R59). -/
def BookInHorizon (s : State) : Prop :=
  let d := fun (e : Entry) => (e.put.interval - s.clock.interval).toNat
  s.book.entries.length ≤ 96 ∧ s.book.entries.Pairwise (fun a b => d a < d b) ∧
    (∀ e ∈ s.book.entries, 2 ≤ d e ∧ d e ≤ 192) ∧ (s.clock.timeValid = false → s.book.entries = [])

/-- ALERT is low exactly while the part runs and a latched alarm is set in the live mask; neither word has a bit above 12
(10.7, R169, R178). -/
def AlertFollowsTheAlarms (s : State) : Prop :=
  s.link.alertLow = (running s && s.link.alarms &&& s.link.mask != 0) ∧
    s.link.alarms &&& 0xE000 = 0 ∧ s.link.mask &&& 0xE000 = 0

/-- The stored heat of a module whose heat is known lies from 0 to its capacity (R37, R38). -/
def HeatWithinCapacity (s : State) : Prop :=
  ∀ m, (s.heat.modules.get m).known = true →
    0 ≤ (s.heat.modules.get m).stored ∧ (s.heat.modules.get m).stored ≤ s.ws.capacity.get m

/-- The bounds under which the flow calculator's guarantees hold (2.7), with the ranges of the settings it divides by
(2.1). -/
def FlowBounds (w : WorkingSet) : Prop :=
  w.pWl + 100 ≤ w.pWh ∧ 64 ≤ w.stiffness ∧ w.stiffness ≤ 4095 ∧
    (∀ x ∈ w.cmap.toList ++ w.emap.toList, 100 ≤ x ∧ x ≤ 2000) ∧
    0 < w.cmapAxes.pStep ∧ 0 < w.cmapAxes.tStep ∧ 0 < w.emapAxes.pStep ∧ 0 < w.emapAxes.tStep ∧ 0 < w.reheat ∧
    w.intervalLength ∈ [600, 1800, 3600, 7200]

end Sys2Proof.Machine
end

