-- ==== Sys2Proof/Certificates/Slice0/Obligations.lean ====
section
/-! DEFINITION. The statements for the provers, family by family in the order of the chapters they rest on. A reply's body is
written with its status byte first: 0 OK, 1 OK_CLAMPED, 2 BUSY, 4 BAD_ARG, 5 BAD_KIND, 6 NO_TIME, 7 LATE, 8 OUT_OF_HORIZON,
10 NO_ENTRY, 12 NO_GROUP_FREE (R174). -/

open Sys2Proof Sys2Proof.Machine

/-! ## The step, the supply and the lines -/

/-- A step takes the command at the front of the queue and works it on the state with the rest of the queue. That the commands
wait in a queue and are taken one at a time, first in, first out, is the model's choice (log entry 1). -/
def Obligations.StepRunsTheFrontCommand : Prop :=
  ∀ (s : State) (c : Instr) (cs : List Instr), s.pending = c :: cs → step s = exec c { s with pending := cs }

/-- Start-up, by the supply or by RESET_IN, gives every block its power-on values and evaluates ESD once on the level present
(R18, R56, R76, R78, R116, R139, R153, R157, R169, R172, R173, R177); that a train's start limit is 0 before its first start
is the model's choice (log entry 35), and so is a mark count of 0 where field_loss_marks is below 0 (log entry 12). Power
applied while RESET_IN is low, and RESET_IN going high without supply, only move their line; power applied to a part that has
it is a loss and a new supply, and a RESET_IN that is high does not rise: these four are the model's choice (log entry 18). POWER_ON and RESET_IN_RISE. -/
def Obligations.StartUpTakesPowerOnValues : Prop :=
  (∀ s : State, s.power = false → s.resetIn = false → exec .powerOn s = .next { s with power := true }) ∧
  (∀ s u : State, s.power = true → exec .powerLoss s = .next u → exec .powerOn s = exec .powerOn u) ∧
  (∀ s : State, s.power = false → s.resetIn = false → exec .resetInRise s = .next { s with resetIn := true }) ∧
  (∀ s : State, s.resetIn = true → exec .resetInRise s = .next s) ∧
  ∀ (c : Instr) (s : State), StartsUp c s →
    ∃ t, exec c s = .next t ∧ running t = true ∧ t.mode = .setup ∧ t.permits = .both false ∧
      t.esdIn = s.esdIn ∧ t.pending = s.pending ∧
      t.meas = MeasState.powerOn t.ws.fieldLossMarks ∧ t.heat = HeatState.powerOn ∧ t.book = BookState.powerOn ∧
      t.proj = ProjState.powerOn ∧ t.clock = ClockState.powerOn ∧ t.seq = SeqState.powerOn ∧
      (∀ e, e ≠ .esd → t.prot.entries.get e = EntryRec.powerOn) ∧
      t.prot.entries.get .esd = (if s.esdIn then ⟨.normal, 0, 0, 0, some 0⟩ else ⟨.latched, 0, 1, 0, some 1⟩) ∧
      t.prot.trips = (if s.esdIn then [] else [⟨0, .esd, true, 1, false, 0, 0⟩]) ∧
      t.prot.seqCounter = (if s.esdIn then 0 else 1) ∧
      t.link.queue = ⟨[], []⟩ ∧ t.link.rx = ⟨.hunt, .hunt⟩ ∧ t.link.counters = ⟨.zero, .zero⟩ ∧ t.link.txTag = 0 ∧
      t.link.mask = BitVec.ofInt 16 t.ws.defaultAlarmMask &&& 0x1FFF ∧
      t.link.alarms = (if t.store.source = .defaults then 0x1000 else 0) ||| (if s.esdIn then 0 else 0x0002)

/-- Start-up loads the image whose CRC matches, as stored and without a range check, and otherwise takes the factory defaults
with CONFIG_DEFAULTED; the image stays as it is (R167). -/
def Obligations.StartUpLoadsTheImage : Prop :=
  ∀ (c : Instr) (s : State), StartsUp c s →
    ∃ t, exec c s = .next t ∧ t.store.status = .idle ∧ t.store.image = s.store.image ∧
      (∀ w, s.store.image = .stored w (imageCrc w) →
        t.ws = w ∧ t.store.source = .image ∧ t.store.unsaved = false ∧ t.link.alarms &&& 0x1000 = 0) ∧
      ((∀ w, s.store.image ≠ .stored w (imageCrc w)) →
        t.ws = factory ∧ t.store.source = .defaults ∧ t.store.unsaved = true ∧ t.link.alarms &&& 0x1000 = 0x1000)

/-- While RESET_IN is low both permit lines are low, ALERT is released and no host frame waits (R169); a save caught in progress
by a power loss or by RESET_IN leaves an image that fails its check (R168). That the loss of the supply, too, drops both
lines, releases ALERT and discards the host frames, and what either fall keeps, is the model's choice (log entry 18).
POWER_LOSS and RESET_IN_FALL. -/
def Obligations.LossOrResetDropsTheLines : Prop :=
  ∀ s : State,
    let held : State := { s with
      permits := .both false
      store := { s.store with image := if s.store.status = .saveBusy then .broken else s.store.image }
      link := { s.link with queue := { s.link.queue with host := [] }, alertLow := false } }
    exec .powerLoss s = .next { held with power := false } ∧ exec .resetInFall s = .next { held with resetIn := false }

/-- A part held in reset takes no frame and no mark (R169): no command but the supply and the lines changes anything. That a
part without supply takes nothing either, and that every field of a held part stays as it stood, is the model's choice (log
entry 18). -/
def Obligations.HeldPartTakesNothing : Prop :=
  ∀ (c : Instr) (s : State), running s = false → drivesALine c = false → exec c s = .next s

/-- The fall of ESD_IN latches ESD at once, with its trip record and PROT_LATCH, and drops both permit lines; the other
entries stand (R144, R147, R150, R153, R154). A change of level that finds ESD LATCHED, and a rise that finds it NORMAL,
updates its last value alone. A level that does not change is no evaluation. ESD_IN_CHANGE. -/
def Obligations.EsdFallLatches : Prop :=
  ∀ s : State, running s = true →
    (s.esdIn = true → (s.prot.entries.get .esd).state = .normal →
      ∃ t, exec (.esdInChange false) s = .next t ∧ farPart t = farPart { s with esdIn := false } ∧
        t.prot.entries = s.prot.entries.set .esd
          ⟨.latched, 0, min 255 ((s.prot.entries.get .esd).tripCount + 1), 0, some 1⟩ ∧
        t.prot.trips.getLast? = some
          ⟨s.prot.seqCounter, .esd, true, 1, s.clock.timeValid, s.clock.interval, s.clock.mark⟩ ∧
        t.prot.seqCounter = s.prot.seqCounter + 1 ∧ t.permits = .both false ∧ t.link.alarms &&& 0x0002 = 0x0002) ∧
    (∀ high : Bool, high ≠ s.esdIn → PermitsFollowTheTable s →
      ((s.prot.entries.get .esd).state = .latched ∨ ((s.prot.entries.get .esd).state = .normal ∧ high = true)) →
      let r := { s.prot.entries.get .esd with last := some (if high then 0 else 1) }
      exec (.esdInChange high) s = .next { s with
        esdIn := high
        prot := { s.prot with entries := s.prot.entries.set .esd r } }) ∧
    exec (.esdInChange s.esdIn) s = .next s

/-! ## The links (chapter 10) -/

/-- A frame on the wire, SOF, LEN, KIND, TAG, BODY and CRC, taken by a hunting receiver, is accepted: it enters its queue
and is counted, or on a full queue is dropped and counted an overrun; nothing else changes (R170, R171, R172, R173).
LINK_FRAME_RX. -/
def Obligations.WireFrameIsAccepted : Prop :=
  ∀ (l : Link) (f : Frame) (s : State), running s = true → s.link.rx.get l = .hunt → f.body.length ≤ 508 →
    let c := s.link.counters.get l
    exec (.linkFrameRx l f.wire) s = .next (
      if (s.link.queue.get l).length < (match l with | .host => 4 | .field => 2) then
        { s with link := { s.link with
          queue := s.link.queue.set l (s.link.queue.get l ++ [f])
          counters := s.link.counters.set l { c with accepted := min 65535 (c.accepted + 1) } } }
      else
        { s with link := { s.link with
          counters := s.link.counters.set l { c with overruns := min 65535 (c.overruns + 1) } } })

/-- A frame whose CRC bytes differ, and a LEN below 2 or above 510, are discarded as a frame error; a good LEN opens the
frame; a gap inside a frame discards it and counts a gap; a gap outside a frame is nothing; the bytes that end the gap are
taken by a hunting receiver (R170). LINK_FRAME_RX, SOF_DETECTED and FRAME_GAP_TIMEOUT. -/
def Obligations.BrokenFramesAreDiscarded : Prop :=
  ∀ (l : Link) (s : State), running s = true →
    let c := s.link.counters.get l
    let erred := raiseAlarm .frameError
      { s with link := { s.link with counters := s.link.counters.set l { c with errors := min 65535 (c.errors + 1) } } }
    (s.link.rx.get l = .hunt →
      (∀ (f : Frame) (crc : List Byte), f.body.length ≤ 508 → crc.length = 2 →
        crc ≠ be2n (crc16 f.covered).toNat → exec (.linkFrameRx l (sof :: f.covered ++ crc)) s = .next erred) ∧
      (∀ hi lo : Byte, exec (.sofDetected l hi lo) s = .next (
        if 2 ≤ hi.toNat * 256 + lo.toNat ∧ hi.toNat * 256 + lo.toNat ≤ 510 then
          { s with link := { s.link with rx := s.link.rx.set l (.data (hi.toNat * 256 + lo.toNat) []) } }
        else erred)) ∧
      exec (.frameGapTimeout l []) s = .next s ∧
      ∀ bs : List Byte, exec (.frameGapTimeout l bs) s = exec (.linkFrameRx l bs) s) ∧
    (s.link.rx.get l ≠ .hunt →
      let discarded := { s with link := { s.link with
        rx := s.link.rx.set l .hunt
        counters := s.link.counters.set l { c with gapDiscards := min 65535 (c.gapDiscards + 1) } } }
      exec (.frameGapTimeout l []) s = .next discarded ∧
      ∀ bs : List Byte, exec (.frameGapTimeout l bs) s = exec (.linkFrameRx l bs) discarded)

/-- A field frame that is not a SCAN of 81 bytes is discarded as a frame error (R172), and a host frame of a kind outside the
catalogue is answered BAD_KIND and changes nothing (R174). FIELD_FRAME_DISCARD and HOST_BAD_KIND. -/
def Obligations.UnownedFramesLeaveTheirQueues : Prop :=
  (∀ (s : State) (f : Frame) (fs : List Frame), running s = true → s.link.queue.field = f :: fs →
    ¬ (f.kind = 0x50 ∧ f.body.length = 81) →
    exec .fieldFrameDiscard s = .next (raiseAlarm .frameError { s with link := { s.link with
      queue := { s.link.queue with field := fs }
      counters := { s.link.counters with field :=
        { s.link.counters.field with errors := min 65535 (s.link.counters.field.errors + 1) } } } })) ∧
  (∀ (s : State) (f : Frame), Asked f.kind f s → f.kind ∉ requestKinds →
    exec .hostBadKind s = .next (answered f [5] s))

/-- Every read without arguments answers OK with its fields and changes nothing; with a body it is refused BAD_ARG (10.4,
R174). How the fields are laid out in the reply is in part the model's reading (log entries 15, 37, 40, 43 and 45).
STATUS_READ, MEAS_READ, HEAT_READ, TRAIN_READ, SLOT_READ, DISPATCH_READ, PROT_READ, TRIP_LIST_READ, MAP_READ. -/
def Obligations.ReadsChangeNothing : Prop :=
  ∀ x ∈ [(Instr.statusRead, (0x01 : Byte), statusFields), (.measRead, 0x02, measFields), (.heatRead, 0x03, heatFields),
      (.trainRead, 0x04, trainFields), (.slotRead, 0x06, slotFields), (.dispatchRead, 0x07, dispatchFields),
      (.protRead, 0x08, protFields), (.tripListRead, 0x09, tripListFields), (.mapRead, 0x0A, mapFields)],
    ∀ (s : State) (f : Frame), Asked x.2.1 f s →
      exec x.1 s = .next (answered f (if f.body = [] then 0 :: x.2.2 s else [4]) s)

/-- BOOK_READ answers OK with its fields, never more than a frame holds, and changes nothing (R77); LINK_READ answers OK with
the counters as they stand and sets every one to 0 when its clear option is 1 (R173). The coding of a group's state and the
order of the counters in the replies are the model's reading of the layout (log entry 15). -/
def Obligations.BookReadFitsAndLinkReadClears : Prop :=
  (∀ (s : State) (f : Frame), Asked 0x05 f s → f.body.length = 4 →
    exec .bookRead s = .next (answered f (0 :: bookFields (intervalAt f.body 0) s) s) ∧
    (0 :: bookFields (intervalAt f.body 0) s).length ≤ 508) ∧
  (∀ (s : State) (f : Frame), Asked 0x0B f s →
    (f.body = [0] → exec .linkRead s = .next (answered f (0 :: linkFields s) s)) ∧
    (f.body = [1] → exec .linkRead s = .next (answered f (0 :: linkFields s)
      { s with
        meas := { s.meas with duplicates := 0, gaps := 0 }
        link := { s.link with counters := ⟨⟨0, 0, 0, 0⟩, ⟨0, 0, 0, 0⟩⟩ } })))

/-- ALARM_CLEAR clears the bits set in its word and leaves the others (R177); ALARM_MASK_SET replaces the live mask (R178);
ALERT is formed anew from both words; TRIP_LIST_CLEAR removes every record and keeps the sequence counter (R154). -/
def Obligations.AlarmAndTripRequestsAct : Prop :=
  ∀ (s : State) (f : Frame) (hi lo : Byte),
    let w : Word16 := hi ++ lo
    (Asked 0x30 f s → f.body = [hi, lo] →
      let a := s.link.alarms &&& ~~~w
      exec .alarmClear s = .next (answered f (0 :: be2n a.toNat)
        { s with link := { s.link with alarms := a, alertLow := a &&& s.link.mask != 0 } })) ∧
    (Asked 0x31 f s → f.body = [hi, lo] →
      let m := w &&& 0x1FFF
      exec .alarmMaskSet s = .next (answered f (0 :: be2n m.toNat)
        { s with link := { s.link with mask := m, alertLow := s.link.alarms &&& m != 0 } })) ∧
    (Asked 0x2D f s → f.body = [] →
      exec .tripListClear s = .next (answered f (0 :: be1n s.prot.trips.length)
        { s with prot := { s.prot with trips := [] } }))

/-- A refused request changes nothing: when a request's reply carries a status other than OK and OK_CLAMPED, the reply and
the queue are all that has changed (R174). Every request of the catalogue. -/
def Obligations.RefusalsChangeNothing : Prop :=
  ∀ (c : Instr) (k : Byte) (f : Frame) (s : State), requestKind c = some k → Asked k f s →
    ∃ (t : State) (st : Byte) (rest : List Byte), exec c s = .next t ∧
      t.link.hostTx = s.link.hostTx ++ [⟨k ||| 0x80, f.tag, st :: rest⟩] ∧
      (st ≠ 0 → st ≠ 1 → t = answered f (st :: rest) s)

/-! ## Measurement (chapter 1) -/

/-- A scan that is not a duplicate or old is accepted: every quantity of the table but the pressure takes its reading, the
scan's number is the last, the mark count is 0, field loss ends, the missed scans are counted and FIELD_GAP raised where they
reach gap_alarm (R2, R8); the ring and the rate are formed (R16, R17); every consumer takes the publication: the heats are
integrated over the steps, with their alarms (R39, R40), trains are confirmed and their windows counted (R120, R129), and
the entries are evaluated (R143, R145, R146, R147), the discharge activity flag of that moment left open (log entry 6); what
no consumer writes stands. Read by the model and not stated in the spec: that a window count saturates at 255 (log entry 34),
and that an enable of 0 is no and one of 1 is yes (log entry 13). SCAN. -/
def Obligations.AcceptedScanUpdatesTheTable : Prop :=
  ∀ (s : State) (f : Frame) (fs : List Frame), running s = true → s.link.queue.field = f :: fs →
    f.kind = 0x50 → f.body.length = 81 →
    let r := scanOf f.body
    (∀ l, s.meas.lastScan = some l → 1 ≤ (r.number - l).toNat ∧ (r.number - l).toNat ≤ 32768) →
    let onward : Option Int := s.meas.lastScan.map (fun l => ((r.number - l).toNat : Int))
    let steps : Int := match onward with
      | some g => min g 25
      | none => 1
    ∃ t, exec .scan s = .next t ∧
      steadyPart t = steadyPart { s with link := { s.link with queue := { s.link.queue with field := fs } } } ∧
      t.meas.lastScan = some r.number ∧ t.meas.markCount = 0 ∧ t.meas.fieldLoss = false ∧
      t.meas.duplicates = s.meas.duplicates ∧
      t.meas.gaps = min 65535 (s.meas.gaps + match s.meas.lastScan with
        | some l => (r.number - l).toNat - 1
        | none => 0) ∧
      Takes s.meas.table.ambient r.ambient t.meas.table.ambient ∧
      Takes s.meas.table.reheat r.reheat t.meas.table.reheat ∧
      (∀ x, Takes (s.meas.table.report.get x) (r.report.get x) (t.meas.table.report.get x) ∧
        Takes (s.meas.table.load.get x) (r.load.get x) (t.meas.table.load.get x)) ∧
      (∀ m, Takes (s.meas.table.top.get m) (r.top.get m) (t.meas.table.top.get m) ∧
        Takes (s.meas.table.bottom.get m) (r.bottom.get m) (t.meas.table.bottom.get m) ∧
        Takes (s.meas.table.flow.get m) (r.flow.get m) (t.meas.table.flow.get m)) ∧
      RingTakesTheScan onward s t ∧ HeatTakesTheScan steps s t ∧ TrainsTakeTheScan s t ∧ EntriesTakeTheScan s t ∧
      let known := HeatModule.all.filter (fun m => (s.heat.modules.get m).known)
      t.link.alarms &&& 0x0640 = s.link.alarms &&& 0x0640
        ||| (if onward.any (fun g => s.ws.gapAlarm ≤ g - 1) then 0x0040 else 0)
        ||| (if known.any (fun m => heatSum steps s t m < 0) then 0x0200 else 0)
        ||| (if known.any (fun m => 0 ≤ heatSum steps s t m ∧ s.ws.capacity.get m < heatSum steps s t m) then 0x0400
             else 0)

/-- A scan whose number equals the last, or lies more than 32768 onward, is discarded: it is counted a duplicate, and nothing
else changes (R2). SCAN. -/
def Obligations.OldScanIsDiscarded : Prop :=
  ∀ (s : State) (f : Frame) (fs : List Frame) (l : Word16), running s = true → s.link.queue.field = f :: fs →
    f.kind = 0x50 → f.body.length = 81 → s.meas.lastScan = some l →
    ((scanOf f.body).number = l ∨ 32768 < ((scanOf f.body).number - l).toNat) →
    exec .scan s = .next { s with
      meas := { s.meas with duplicates := min 65535 (s.meas.duplicates + 1) }
      link := { s.link with queue := { s.link.queue with field := fs } } }

/-- On an accepted scan three GOOD transducers whose readings agree within dev_threshold give, under MEDIAN, the middle reading
with quality GOOD, and stay GOOD with their run counters 0. On every accepted scan the transducers are counted by the
reference, the recovery band or the tie break, with SENSOR_SUSPECT and PRESS_SENSORS, and the validated pressure and its
quality, GOOD, SUBSTITUTED, DEGRADED or HELD, are formed by MEDIAN or MEAN from those GOOD after it (R2, R9, R10, R11, R12,
R13, R14, R15); that a run counter saturates at 255 is read from its range (log entry 34). SCAN. -/
def Obligations.AgreeingTransducersGiveTheMiddle : Prop :=
  (∀ (s : State) (f : Frame) (fs : List Frame) (a b c : Int), running s = true → s.link.queue.field = f :: fs →
    f.kind = 0x50 → f.body.length = 81 →
    (∀ l, s.meas.lastScan = some l →
      1 ≤ ((scanOf f.body).number - l).toNat ∧ ((scanOf f.body).number - l).toNat ≤ 32768) → s.ws.combineMode = 0 →
    (∀ p, (s.meas.transducers.get p).state = .good) → (scanOf f.body).p = ⟨some a, some b, some c⟩ →
    (a - b).natAbs ≤ s.ws.devThreshold → (b - c).natAbs ≤ s.ws.devThreshold → (a - c).natAbs ≤ s.ws.devThreshold →
    ∃ t, exec .scan s = .next t ∧
      t.meas.table.pressure = ⟨max (min a b) (min (max a b) c), .good⟩ ∧
      t.meas.transducers = ⟨⟨.good, 0, some a⟩, ⟨.good, 0, some b⟩, ⟨.good, 0, some c⟩⟩ ∧
      t.meas.pressSensors = false) ∧
  ∀ (s : State) (f : Frame) (fs : List Frame), running s = true → s.link.queue.field = f :: fs →
    f.kind = 0x50 → f.body.length = 81 →
    (∀ l, s.meas.lastScan = some l →
      1 ≤ ((scanOf f.body).number - l).toNat ∧ ((scanOf f.body).number - l).toNat ≤ 32768) →
    ∃ t, exec .scan s = .next t ∧ TransducersTakeTheScan (scanOf f.body) s t ∧ PressureTakesTheScan (scanOf f.body) s t

/-- A GOOD transducer whose run counter reaches suspect_count becomes SUSPECT with its counter 0 and raises SENSOR_SUSPECT
(R11); a SUSPECT one whose counter reaches good_count becomes GOOD with its counter 0 (R12). That these commands are the
share of their scan for the one transducer is the model's choice (log entry 3). SENSOR_SUSPECT, TRANSDUCER_RETURN_GOOD. -/
def Obligations.TransducerChangesState : Prop :=
  ∀ (s : State) (p : Transducer), running s = true →
    let r := s.meas.transducers.get p
    (r.state = .good → s.ws.suspectCount ≤ r.run + 1 →
      exec (.sensorSuspect p) s = .next (raiseAlarm .sensorSuspect { s with meas := { s.meas with
        transducers := s.meas.transducers.set p { r with state := .suspect, run := 0 } } })) ∧
    (r.state = .suspect → s.ws.goodCount ≤ r.run + 1 →
      exec (.transducerReturnGood p) s = .next { s with meas := { s.meas with
        transducers := s.meas.transducers.set p { r with state := .good, run := 0 } } })

/-- When the mark count reaches field_loss_marks field loss begins: the last scan number becomes UNDEFINED and every quality
STALE, every value kept; nothing outside the measurement unit changes (R5). That this command is that share of its mark is
the model's choice (log entry 3). FIELD_LOSS_BEGIN. -/
def Obligations.FieldLossBegins : Prop :=
  ∀ s : State, running s = true → s.meas.fieldLoss = false → s.ws.fieldLossMarks ≤ s.meas.markCount + 1 →
    ∃ m : MeasState, exec .fieldLossBegin s = .next { s with meas := m } ∧
      m = { s.meas with table := m.table, lastScan := none, markCount := m.markCount, fieldLoss := true } ∧
      m.table.pressure = ⟨s.meas.table.pressure.value, .stale⟩ ∧ m.table.ambient = ⟨s.meas.table.ambient.value, .stale⟩ ∧
      m.table.reheat = ⟨s.meas.table.reheat.value, .stale⟩ ∧
      (∀ x, m.table.report.get x = ⟨(s.meas.table.report.get x).value, .stale⟩ ∧
        m.table.load.get x = ⟨(s.meas.table.load.get x).value, .stale⟩) ∧
      (∀ x, m.table.top.get x = ⟨(s.meas.table.top.get x).value, .stale⟩ ∧
        m.table.bottom.get x = ⟨(s.meas.table.bottom.get x).value, .stale⟩ ∧
        m.table.flow.get x = ⟨(s.meas.table.flow.get x).value, .stale⟩)

/-! ## Flow calculator and projection (chapters 2 and 5) -/

/-- Every clip is the smaller of the power handed to it and a value of 0 or more, and so returns a power from 0 to the power
handed, whatever the map values within their bounds and the temperatures (R32). -/
def Obligations.ClipsNeverRaiseARequest : Prop :=
  ∀ (w : WorkingSet) (p ambient reheatTemp power other heat : Int), FlowBounds w → 0 ≤ power → 0 ≤ other → 0 ≤ heat →
    let wC := workC w p ambient
    let wE := workE w p reheatTemp
    (∃ k, 0 ≤ k ∧ highClip w p power other wC = min power k) ∧
    (0 ≤ highClip w p power other wC ∧ highClip w p power other wC ≤ power) ∧
    (∃ k, 0 ≤ k ∧ lowClip w p power other wE = min power k) ∧
    (0 ≤ lowClip w p power other wE ∧ lowClip w p power other wE ≤ power) ∧
    (∃ k, 0 ≤ k ∧ heatClip w power heat wE = min power k) ∧
    (0 ≤ heatClip w power heat wE ∧ heatClip w power heat wE ≤ power) ∧
    ∀ (ts : PerTrain TrainRec) (isOpen : PerSide Bool) (request : PerSide Int), (∀ t, 0 ≤ w.rating.get t) →
      0 ≤ request.charge → 0 ≤ request.discharge →
      let k := clipSteps ⟨w, ts, ambient, reheatTemp⟩ p heat isOpen request
      (0 ≤ k.clipped.charge ∧ k.clipped.charge ≤ request.charge) ∧
        0 ≤ k.clipped.discharge ∧ k.clipped.discharge ≤ request.discharge

/-- An interval that starts in the schedule window and is clipped by the high-side and then the low-side clip ends in the
window, whatever the requests, the map values within their bounds, the temperatures and the interval length (R33). -/
def Obligations.ClippedIntervalStaysInTheWindow : Prop :=
  ∀ (w : WorkingSet) (p ambient reheatTemp charge discharge : Int), FlowBounds w → w.pWl ≤ p → p ≤ w.pWh →
    0 ≤ charge → 0 ≤ discharge →
    let L := w.intervalLength
    let wC := workC w p ambient
    let wE := workE w p reheatTemp
    let c := highClip w p charge (mass discharge L wE) wC
    let d := lowClip w p discharge (mass c L wC) wE
    w.pWl ≤ stepPressure w p ambient reheatTemp c d L ∧ stepPressure w p ambient reheatTemp c d L ≤ w.pWh

/-- A completed run is published in one step: the counter, the summary, each book entry that meets the three conditions of
R61 taking a result, every other standing, and the staging slot while its interval is the one the run copied. A
written result that is SHORT and lies from 1 to short_lookahead onward raises SHORT_AHEAD, an UNBACKED one UNBACKED_RESERVE,
and nothing else raises either; a set rerun flag starts a new run and is cleared (R61, R78, R90, R93). PROJECTION_RUN_COMPLETE. -/
def Obligations.RunCompletionPublishes : Prop :=
  ∀ (s : State) (r : RunInFlight), running s = true → s.mode ≠ .setup → s.proj.run = some r →
    let fits := fun (x : RunResult) (e : Entry) =>
      x.interval = e.put.interval ∧ x.revision = e.revision ∧ e.putSinceRead = false
    ∃ t, exec .projectionRunComplete s = .next t ∧ outerPart t = outerPart s ∧ t.heat = s.heat ∧ t.seq = s.seq ∧
      t.proj.counter = s.proj.counter + 1 ∧ t.proj.summary = r.figures ∧ t.proj.rerun = false ∧
      t.proj.run.isSome = s.proj.rerun ∧ { t.clock with staging := s.clock.staging } = s.clock ∧
      t.book.entries.length = s.book.entries.length ∧
      (∀ (i : Nat) (e : Entry), s.book.entries[i]? = some e → ∃ e', t.book.entries[i]? = some e' ∧
        e'.put = e.put ∧ e'.revision = e.revision ∧ e'.putSinceRead = (e.putSinceRead && !s.proj.rerun) ∧
        ((∃ x ∈ r.book, fits x e ∧ e'.feas = x.feas) ∨ ((∀ x ∈ r.book, ¬ fits x e) ∧ e'.feas = e.feas))) ∧
      (∀ (sl : Slot) (x : RunResult), s.clock.staging = some sl → s.clock.interval = r.copy.interval →
        r.staging = some x → t.clock.staging = some { sl with entry := { sl.entry with feas := x.feas } }) ∧
      (s.clock.interval ≠ r.copy.interval → t.clock.staging = s.clock.staging) ∧
      let writes := fun (n : Word32) (written : Feasibility) =>
        (∃ (i : Nat) (e e' : Entry), s.book.entries[i]? = some e ∧ t.book.entries[i]? = some e' ∧
          (∃ x ∈ r.book, fits x e) ∧ n = e.put.interval ∧ written = e'.feas) ∨
        (s.clock.staging.isSome = true ∧ s.clock.interval = r.copy.interval ∧
          ∃ x, r.staging = some x ∧ n = x.interval ∧ written = x.feas)
      let shortAhead := ∃ n written, writes n written ∧ written.status = .short ∧
        1 ≤ (n - s.clock.interval).toNat ∧ ((n - s.clock.interval).toNat : Int) ≤ r.copy.ws.shortLookahead
      let unbacked := ∃ n written, writes n written ∧ written.reserve = .unbacked
      (shortAhead → t.link.alarms &&& 0x0004 = 0x0004) ∧
        (¬ shortAhead → t.link.alarms &&& 0x0004 = s.link.alarms &&& 0x0004) ∧
        (unbacked → t.link.alarms &&& 0x0008 = 0x0008) ∧
        (¬ unbacked → t.link.alarms &&& 0x0008 = s.link.alarms &&& 0x0008)

/-! ## Heat store (chapter 3) -/

/-- A balance update sets its counter to 0 and leaves no module whose role and share differ from the last valve command sent
for it, each difference sent as a VALVE_CMD; heats, residues and services stand, and no module enters or leaves ISOLATED
(R48, R49). That this command counts no publication beside the one that completes the period is the model's choice (log
entry 3). BALANCE_UPDATE. -/
def Obligations.BalanceUpdateSendsItsCommands : Prop :=
  ∀ s : State, running s = true → s.ws.balancePeriod ≤ s.heat.balanceCount + 1 →
    ∃ t, exec .balanceUpdate s = .next t ∧ outerPart t = outerPart s ∧ t.seq = s.seq ∧ t.clock = s.clock ∧
      t.book = s.book ∧ t.proj = s.proj ∧ t.prot = s.prot ∧ t.heat.active = s.heat.active ∧ t.heat.balanceCount = 0 ∧
      ∀ m, let r := s.heat.modules.get m
        let r' := t.heat.modules.get m
        r'.stored = r.stored ∧ r'.residue = r.residue ∧ r'.known = r.known ∧ r'.fill = r.fill ∧
        r'.inService = r.inService ∧ (r'.role = .isolated ↔ r.role = .isolated) ∧
        r'.sentRole = r'.role ∧ r'.sentShare = r'.share ∧
        ((r'.role ≠ r.sentRole ∨ r'.share ≠ r.sentShare) →
          Sent 0x52 (be1n (moduleCode m) ++ be1 (roleCode r'.role) ++ be2 r'.share) s t)

/-- Shares brought back to their sum add up to 1000, no member below share_min, and no other module's share is touched
(R51). -/
def Obligations.RenormalisedSharesSumToThousand : Prop :=
  ∀ (shareMin : Int) (members : List HeatModule) (sh : PerModule Int), members.Nodup → members ≠ [] →
    0 ≤ shareMin → 6 * shareMin ≤ 1000 →
    let after := renormalise shareMin members sh
    (members.map after.get).sum = 1000 ∧ (∀ m ∈ members, shareMin ≤ after.get m) ∧
      ∀ m, m ∉ members → after.get m = sh.get m

/-- MODULE_SERVICE sets the service of the module it names; a module taken out of service is in no set afterwards; a state
already held is accepted and changes nothing (R42). -/
def Obligations.ModuleServiceIsSet : Prop :=
  ∀ (s : State) (f : Frame) (m : HeatModule) (x : Byte), Asked 0x28 f s →
    f.body = [BitVec.ofNat 8 (moduleCode m + 1), x] → x = 0 ∨ x = 1 →
    ∃ t, exec .moduleService s = .next t ∧ outerPart t = outerPart (answered f [0] s) ∧ t.seq = s.seq ∧
      t.clock = s.clock ∧ (t.heat.modules.get m).inService = (x == 0) ∧
      (∀ k, (t.heat.modules.get k).stored = (s.heat.modules.get k).stored ∧
        (t.heat.modules.get k).known = (s.heat.modules.get k).known ∧
        (k ≠ m → (t.heat.modules.get k).inService = (s.heat.modules.get k).inService)) ∧
      ((s.heat.modules.get m).inService = (x == 0) → t = answered f [0] s) ∧
      ((s.heat.modules.get m).inService = true → x = 1 →
        (t.heat.modules.get m).role ≠ .charging ∧ (t.heat.modules.get m).role ≠ .discharging)

/-- HEAT_PRESET in SETUP writes the stored heat, with residue 0, heat known and the fill formed anew, and nothing else (R38,
R41). -/
def Obligations.HeatPresetIsTaken : Prop :=
  ∀ (s : State) (f : Frame) (m : HeatModule), Asked 0x29 f s → s.mode = .setup → f.body.length = 5 →
    byteAt f.body 0 = moduleCode m + 1 → 0 < s.ws.capacity.get m → u32At f.body 1 ≤ s.ws.capacity.get m →
    let r := { s.heat.modules.get m with
      stored := u32At f.body 1, residue := 0, known := true, fill := u32At f.body 1 * 1000 / s.ws.capacity.get m }
    exec .heatPreset s = .next (answered f [0] { s with heat := { s.heat with modules := s.heat.modules.set m r } })

/-- Every step keeps the stored heat of a module whose heat is known from 0 to its capacity (R37, R39, R40, R41). -/
def Obligations.HeatStaysWithinCapacity : Prop :=
  ∀ s t : State, HeatWithinCapacity s → step s = .next t → HeatWithinCapacity t

/-! ## Schedule book (chapter 4) -/

/-- An accepted put writes its entry, PENDING, with revision 0 or the next revision and the lead clamped to L − 1, leaves
every other entry, answers the interval, the revision, whether it was inserted or replaced and the count, and requests a run
(R60, R61, R62, R63). That the flag is 1 for inserted is the model's reading (log entry 14). ENTRY_PUT. -/
def Obligations.AcceptedPutWritesTheEntry : Prop :=
  ∀ (s : State) (f : Frame) (p : PutForm), Asked 0x10 f s → putOf f.body = some p → s.clock.timeValid = true →
    2 ≤ (p.interval - s.clock.interval).toNat → (p.interval - s.clock.interval).toNat ≤ 192 →
    ((∃ e ∈ s.book.entries, e.put.interval = p.interval) ∨ s.book.entries.length < 96) →
    0 ≤ p.charge ∧ p.charge ≤ 4000 → 0 ≤ p.discharge ∧ p.discharge ≤ 4000 →
    (∀ r, p.reserve = some r →
      (0 ≤ r.up ∧ r.up ≤ 1000) ∧ (0 ≤ r.down ∧ r.down ≤ 1000) ∧ 60 ≤ r.sustain ∧ r.sustain ≤ 3600) →
    let old := s.book.entries.find? (fun e => e.put.interval == p.interval)
    let revision : Byte := match old with
      | some e => e.revision + 1
      | none => 0
    ∃ es : List Entry,
      exec .entryPut s = .next (answered f
        ((if s.ws.intervalLength - 1 < p.lead then 1 else 0) :: (be4 p.interval.toNat ++ [revision] ++ beFlag old.isNone
          ++ be1n es.length)) (requestRun { s with book := { s.book with entries := es } })) ∧
      es.length = s.book.entries.length + (if old.isNone then 1 else 0) ∧
      es.find? (fun e => e.put.interval == p.interval) = some
        ⟨{ p with lead := min p.lead (s.ws.intervalLength - 1) }, revision, true,
          ⟨.pending, ⟨0, 0⟩, ⟨false, false, false, false, false⟩, .none, 0, 0, false⟩⟩ ∧
      (∀ e : Entry, e.put.interval ≠ p.interval → (e ∈ es ↔ e ∈ s.book.entries))

/-- ENTRY_DROP meets its checks in order, BAD_ARG, NO_TIME, LATE or OUT_OF_HORIZON by position, NO_ENTRY; accepted, it removes
the entry, answers the number left and requests a run (R58, R64). -/
def Obligations.EntryDropIsChecked : Prop :=
  ∀ (s : State) (f : Frame), Asked 0x11 f s →
    let n := intervalAt f.body 0
    let d := (n - s.clock.interval).toNat
    let left := s.book.entries.filter (fun e => e.put.interval ≠ n)
    exec .entryDrop s = .next (
      if f.body.length ≠ 4 then answered f [4] s
      else if s.clock.timeValid = false then answered f [6] s
      else if d ≤ 1 ∨ 2147483648 < d then answered f [7] s
      else if 192 < d then answered f [8] s
      else if ∀ e ∈ s.book.entries, e.put.interval ≠ n then answered f [10] s
      else answered f (0 :: be1n left.length) (requestRun { s with book := { s.book with entries := left } }))

/-- GROUP_OPEN takes the lowest-numbered FREE group, which becomes OPEN with an empty list; with none FREE it is refused
NO_GROUP_FREE and no group changes; the mode and the time play no part (R66). -/
def Obligations.GroupOpenTakesTheLowestFree : Prop :=
  ∀ (s : State) (f : Frame), Asked 0x12 f s → f.body = [] →
    (∀ g, s.book.groups.get g = none → (∀ h, groupNumber h < groupNumber g → s.book.groups.get h ≠ none) →
      exec .groupOpen s = .next (answered f [0, BitVec.ofNat 8 (groupNumber g)]
        { s with book := { s.book with groups := s.book.groups.set g (some []) } })) ∧
    ((∀ g, s.book.groups.get g ≠ none) → exec .groupOpen s = .next (answered f [12] s))

/-- GROUP_ADD appends its change to an OPEN group that holds fewer than 16, a PUT with its lead clamped (R63, R67);
GROUP_DISCARD makes an OPEN group FREE and leaves the book (R70). -/
def Obligations.GroupsTakeAndDropChanges : Prop :=
  ∀ (s : State) (f : Frame) (g : GroupId) (cs : List Change), s.book.groups.get g = some cs →
    let added := fun (c : Change) =>
      { s with book := { s.book with groups := s.book.groups.set g (some (cs ++ [c])) } }
    (∀ n : Word32, Asked 0x13 f s → cs.length < 16 → f.body = [BitVec.ofNat 8 (groupNumber g), 1] ++ be4 n.toNat →
      exec .groupAdd s = .next (answered f (0 :: be1n (cs.length + 1)) (added (.drop n)))) ∧
    (∀ (pb : List Byte) (p : PutForm), Asked 0x13 f s → cs.length < 16 →
      f.body = [BitVec.ofNat 8 (groupNumber g), 0] ++ pb → putOf pb = some p → putInRange p = true →
      exec .groupAdd s = .next (answered f ((if s.ws.intervalLength - 1 < p.lead then 1 else 0) :: be1n (cs.length + 1))
        (added (.put { p with lead := min p.lead (s.ws.intervalLength - 1) })))) ∧
    (Asked 0x15 f s → f.body = [BitVec.ofNat 8 (groupNumber g)] →
      exec .groupDiscard s = .next (answered f [0]
        { s with book := { s.book with groups := s.book.groups.set g none } }))

/-- A launch is all or nothing: when every change passes its checks against the book as the changes before it leave it, all
are applied in order, the group is FREE and one run is requested; the first that fails is answered with its refusal and its
index, and nothing changes (R68, R69). GROUP_LAUNCH. -/
def Obligations.GroupLaunchIsAllOrNothing : Prop :=
  ∀ (s : State) (f : Frame) (g : GroupId) (cs : List Change), Asked 0x14 f s →
    f.body = [BitVec.ofNat 8 (groupNumber g)] → s.book.groups.get g = some cs →
    let after := fun (k : Nat) => (cs.take k).foldl (applyChange s.clock.interval) s.book.entries
    let check := fun (k : Nat) (c : Change) => checkChange s.clock.timeValid s.clock.interval (after k) c
    (cs ≠ [] → (∀ k c, cs[k]? = some c → check k c = none) →
      exec .groupLaunch s = .next (answered f (0 :: be1n cs.length) (requestRun
        { s with book := ⟨after cs.length, s.book.groups.set g none⟩ }))) ∧
    (cs = [] → exec .groupLaunch s = .next (answered f [0, 0]
      { s with book := { s.book with groups := s.book.groups.set g none } })) ∧
    (∀ (k : Nat) (c : Change) (st : Status), cs[k]? = some c → check k c = some st →
      (∀ j x, j < k → cs[j]? = some x → check j x = none) →
      exec .groupLaunch s = .next (answered f (statusCode st :: be1n (k + 1)) s))

/-- Every step keeps the book's own rule: at most 96 entries, nearest first, no two for one interval, all from current+2 to
current+192 while the time is valid, none while it is not (R59, R62, R68, R71, R72, R74, R75). -/
def Obligations.BookStaysInTheHorizon : Prop :=
  ∀ s t : State, BookInHorizon s → step s = .next t → BookInHorizon t

/-! ## Dispatch clock (chapter 6) -/

/-- A mark taken by every block, in whatever order: the time base counts while the time is valid and turns over at L (R97);
the measurement unit counts it, and begins field loss at field_loss_marks (R5); the entries' NORMAL mark counts run and
FIELD_LOSS is evaluated (R143, R148); the timed states are counted and limited (R118, R121); on a mark inside the interval
the ramp starts, runs or ends (R105, R106, R110); the effective targets follow (R107, R109); a shortfall that nothing else
moves is counted (R114). What takes no mark stands. Read by the model and not stated in the spec: that a state timer saturates
at 65535 (log entry 34), and that an enable of 0 is no and one of 1 is yes (log entry 13). MARK. -/
def Obligations.MarkAdvancesTheClock : Prop :=
  ∀ s : State, running s = true →
    ∃ t, exec .mark s = .next t ∧ steadyPart t = steadyPart s ∧ t.clock.timeValid = s.clock.timeValid ∧
      (t.clock.interval, t.clock.mark) =
        (if s.clock.timeValid = false then (s.clock.interval, s.clock.mark)
         else if s.clock.mark + 1 < s.ws.intervalLength then (s.clock.interval, s.clock.mark + 1)
         else (s.clock.interval + 1, 0)) ∧
      (s.meas.fieldLoss = true → t.meas = s.meas) ∧
      (s.meas.fieldLoss = false → s.meas.markCount + 1 < s.ws.fieldLossMarks →
        t.meas = { s.meas with markCount := s.meas.markCount + 1 }) ∧
      (s.meas.fieldLoss = false → s.ws.fieldLossMarks ≤ s.meas.markCount + 1 →
        exec .fieldLossBegin s = .next { s with meas := t.meas }) ∧
      EntriesTakeTheMark s t ∧ (ListsHoldTheirTrains s → TimersTakeTheMark s t) ∧
      (s.mode ≠ .setup → TargetsFollowTheTable t) ∧
      (s.clock.timeValid = true → s.clock.mark + 1 < s.ws.intervalLength →
        RampTakesTheMark s t ∧
        (s.mode ≠ .setup → NothingElseOnTheMark s →
          (∀ sd, (t.clock.record.get sd).effective = (s.clock.record.get sd).effective) → CountsTakeTheMark s t))

/-- At a boundary in SETUP the interval number advances, the book expires its entry for the new current+1, and nothing else
changes: no slot, no target, no alarm, no run; while the time is invalid no boundary is taken (R72, R97, R104). That this
command is the boundary of its mark, taken at a mark count of L − 1 or more without the mark's other work, is the model's
choice (log entry 3). BOUNDARY. -/
def Obligations.SetupBoundaryExpires : Prop :=
  ∀ s : State, running s = true → s.mode = .setup →
    (s.clock.timeValid = true → s.ws.intervalLength ≤ s.clock.mark + 1 →
      exec .boundary s = .next { s with
        clock := { s.clock with interval := s.clock.interval + 1, mark := 0 }
        book := { s.book with entries := s.book.entries.filter (fun e => e.put.interval ≠ s.clock.interval + 2) } }) ∧
    (s.clock.timeValid = false → exec .boundary s = .next s)

/-- At a boundary in OPERATE or MANUAL the staging slot becomes the active slot, as projected, or clipped by the boundary
clip where it is PENDING; the book's entry for the new current+1 is staged and leaves the book, or the book-empty policy
fills the slot with BOOK_EMPTY_NEXT; the deployment is clamped to the new band, the ramp ends, the dispatch values are the
new active targets, hold-outs end and a run is in flight (R71, R97, R100, R101, R102, R103, R135). That this command is
the boundary of its mark, without the mark's other work, is the model's choice (log entry 3). BOUNDARY. -/
def Obligations.BoundaryTurnsTheSlotsOver : Prop :=
  ∀ (s : State) (sl : Slot), running s = true → s.mode ≠ .setup → s.clock.timeValid = true →
    s.ws.intervalLength ≤ s.clock.mark + 1 → s.clock.staging = some sl →
    let k := clipSteps ⟨s.ws, s.seq.trains, s.meas.table.ambient.value, s.meas.table.reheat.value⟩
      s.meas.table.pressure.value (usableHeat s.heat.modules) s.clock.permitsSeen
      ⟨sl.entry.put.charge, sl.entry.put.discharge⟩
    let turned : Slot :=
      if sl.entry.feas.status = .pending then
        ⟨{ sl.entry with feas := { sl.entry.feas with
            status := if k.reasons = ⟨false, false, false, false, false⟩ then .firm else .short
            clipped := k.clipped, reasons := k.reasons } }, sl.source, .boundary⟩
      else { sl with clip := .projection }
    ∃ t, exec .boundary s = .next t ∧ outerPart t = outerPart s ∧
      t.clock.interval = s.clock.interval + 1 ∧ t.clock.mark = 0 ∧ t.clock.timeValid = true ∧
      t.clock.active = some turned ∧
      (∀ e, s.book.entries.find? (fun e => e.put.interval == s.clock.interval + 2) = some e →
        t.clock.staging.map (fun x => (x.entry.put, x.entry.revision, x.entry.feas, x.source)) =
          some (e.put, e.revision, e.feas, .book)) ∧
      ((∀ e ∈ s.book.entries, e.put.interval ≠ s.clock.interval + 2) → t.link.alarms &&& 0x0800 = 0x0800 ∧
        t.clock.staging.map (fun x => (x.entry.put, x.entry.revision, x.entry.feas.status, x.source)) = some
          (if s.ws.emptyPolicy = 0 then
            ⟨s.clock.interval + 2, turned.entry.feas.clipped.charge, turned.entry.feas.clipped.discharge, 0, none⟩
           else ⟨s.clock.interval + 2, 0, 0, min s.ws.idleLead (s.ws.intervalLength - 1), none⟩, 0, .pending, .policy)) ∧
      t.book.entries.map (·.put) =
        (s.book.entries.filter (fun e => e.put.interval ≠ s.clock.interval + 2)).map (·.put) ∧
      t.clock.ramp.kind = .none ∧ t.clock.dispatch = turned.entry.feas.clipped ∧
      t.clock.deployment = (match sl.entry.put.reserve with
        | some r => max (-r.down) (min r.up s.clock.deployment)
        | none => 0) ∧
      (∀ x, (t.seq.trains.get x).heldOut = false) ∧ t.proj.run.isSome = true

/-- A rejoin ramp that has run its n marks ends: no ramp runs, the dispatch values are the active targets and the effective
targets follow them; the book and the run in flight stand (R107, R110). That this command is that share of its mark, taken
before the mark is counted, is the model's choice (log entries 3 and 30). REJOIN_RAMP_END. -/
def Obligations.RejoinRampEnds : Prop :=
  ∀ s : State, running s = true → ListsHoldTheirTrains s → s.mode = .operate → s.clock.timeValid = true →
    s.clock.mark + 1 < s.ws.intervalLength → s.clock.ramp.kind = .rejoin →
    s.clock.ramp.n ≤ s.clock.mark + 1 - s.clock.ramp.s0 →
    (∀ sl, s.clock.staging = some sl →
      sl.entry.put.lead < 1 ∨ s.clock.mark + 1 < s.ws.intervalLength - sl.entry.put.lead) →
    ∃ t, exec .rejoinRampEnd s = .next t ∧ outerPart t = outerPart s ∧ t.book = s.book ∧ t.prot = s.prot ∧
      t.proj = s.proj ∧ TargetsFollowTheTable t ∧ t.clock.ramp.kind = .none ∧
      t.clock.dispatch = (match s.clock.active with | some sl => sl.entry.feas.clipped | none => ⟨0, 0⟩) ∧
      { t.clock with ramp := s.clock.ramp, dispatch := s.clock.dispatch, record := s.clock.record } = s.clock

/-- A reserve call in OPERATE under an active reserve part sets the deployment to the value called, clamped to the band, and
answers it; the effective targets are formed from the dispatch values and the deployment, charge first, under the permits
seen (R107, R108). RESERVE_CALL. -/
def Obligations.ReserveCallIsClamped : Prop :=
  ∀ (s : State) (f : Frame) (sl : Slot) (r : Reserve), Asked 0x18 f s → f.body.length = 2 →
    ListsHoldTheirTrains s → s.mode = .operate → s.clock.active = some sl → sl.entry.put.reserve = some r → 0 ≤ r.up → 0 ≤ r.down →
    let called := s16At f.body 0
    let d := max (-r.down) (min r.up called)
    let moved := movedTargets s.clock.dispatch d
    ∃ t, exec .reserveCall s = .next t ∧
      outerPart t = outerPart (answered f ((if d = called then 0 else 1) :: be2 d) s) ∧
      t.book = s.book ∧ t.prot = s.prot ∧ t.proj = s.proj ∧
      t.clock.deployment = d ∧
      t.clock.record.charge.effective = (if s.clock.permitsSeen.charge then moved.charge else 0) ∧
      t.clock.record.discharge.effective = (if s.clock.permitsSeen.discharge then moved.discharge else 0) ∧
      { t.clock with deployment := s.clock.deployment, record := s.clock.record } = s.clock

/-- MANUAL_TARGET in MANUAL sets both manual targets, and they are the effective targets under the permits seen; the dispatch
values, the slots and the deployment stand (R107, R109). -/
def Obligations.ManualTargetIsTaken : Prop :=
  ∀ (s : State) (f : Frame), Asked 0x19 f s → s.mode = .manual → f.body.length = 4 → u16At f.body 0 ≤ 4000 →
    u16At f.body 2 ≤ 4000 →
    ∃ t, exec .manualTarget s = .next t ∧ outerPart t = outerPart (answered f [0] s) ∧ t.book = s.book ∧
      t.prot = s.prot ∧ t.proj = s.proj ∧ t.clock.manual = ⟨u16At f.body 0, u16At f.body 2⟩ ∧
      t.clock.record.charge.effective = (if s.clock.permitsSeen.charge then u16At f.body 0 else 0) ∧
      t.clock.record.discharge.effective = (if s.clock.permitsSeen.discharge then u16At f.body 2 else 0) ∧
      { t.clock with manual := s.clock.manual, record := s.clock.record } = s.clock

/-- A side whose shortfall count reaches shortfall_marks while a shortfall stands raises UNDELIVERED, and its count
returns to 0; the other side's count stands (R114). When the NORMAL mark count of a protection entry reaches its
latch_clear_marks its trip count becomes 0; the count runs on, saturating (R148). That the two commands are the share of
their mark for the one side or entry is the model's choice (log entry 3). UNDELIVERED, TRIP_COUNT_CLEAR. -/
def Obligations.MarkCountsReachTheirLimits : Prop :=
  (∀ (s : State) (sd : Side), running s = true → s.mode ≠ .setup → 0 < (s.clock.record.get sd).shortfall →
    s.ws.shortfallMarks ≤ (s.clock.record.get sd).count + 1 →
    exec (.undelivered sd) s = .next (raiseAlarm .undelivered { s with clock := { s.clock with
      record := s.clock.record.set sd { s.clock.record.get sd with count := 0 } } })) ∧
  (∀ (s : State) (e : ProtEntry), running s = true →
    let r := s.prot.entries.get e
    let n := min 65535 (r.normalMarks + 1)
    r.state = .normal → s.ws.latchClearMarks.get e ≤ (n : Int) →
    exec (.tripCountClear e) s = .next { s with prot := { s.prot with
      entries := s.prot.entries.set e { r with normalMarks := n, tripCount := 0 } } })

/-! ## Train sequencer (chapter 7) -/

/-- A RUNNING train outside its operating window for window_scans publications is stopped: STOPPING, off its list, a STOP
command sent; the trains of the other side stand (R118, R122, R126, R129). That this command is the share of its
publication for the one train is the model's choice (log entry 3), and that the window count saturates at 255 is read from
its range (log entry 34). WINDOW_EXIT. -/
def Obligations.WindowExitStopsTheTrain : Prop :=
  ∀ (s : State) (x : Train), running s = true → ListsHoldTheirTrains s →
    let r := s.seq.trains.get x
    let p := s.meas.table.pressure
    r.state = .running → (p.quality = .good ∨ p.quality = .substituted ∨ p.quality = .degraded) →
    (p.value < s.ws.windowBase.get x ∨ s.ws.windowLimit.get x < p.value) →
    s.ws.windowScans ≤ (min 255 (r.windowCount + 1) : Nat) →
    ∃ t, exec (.windowExit x) s = .next t ∧ outerPart t = outerPart s ∧
      t.seq.trains.get x = { r with state := .stopping, timer := 0, load := 0, windowCount := 0 } ∧
      x ∉ (t.seq.sides.get x.side).order ∧
      (∀ y, y.side ≠ x.side → t.seq.trains.get y = s.seq.trains.get y) ∧
      Sent 0x51 [BitVec.ofNat 8 (trainCode x), 1, 0, 0] s t

/-- The limits of the timed states: a start or a stop that runs out makes the train TRIPPED with its cause and a TRIP command,
a start with START_FAIL as well; a WARM train whose hold runs out leaves WARM, and is COLD where nothing starts it (R118,
R119, R121). That these commands are the share of their mark for the one train is the model's choice (log entry 3), and that
a state timer saturates at 65535 is read from its range (log entry 34). START_TIMEOUT, STOP_TIMEOUT, WARM_HOLD_EXPIRY. -/
def Obligations.LimitsEndTimedStates : Prop :=
  ∀ (s : State) (x : Train), running s = true → ListsHoldTheirTrains s →
    let r := s.seq.trains.get x
    let timer := min 65535 (r.timer + 1)
    let trip : Byte := 3
    (r.state = .starting → r.startLimit ≤ timer →
      ∃ t, exec (.startTimeout x) s = .next t ∧ outerPart t = outerPart s ∧
        t.seq.trains.get x =
          { r with state := .tripped, timer := 0, load := 0, windowCount := 0, cause := .startTimeout } ∧
        Sent 0x51 [BitVec.ofNat 8 (trainCode x), trip, 0, 0] s t ∧ t.link.alarms &&& 0x0100 = 0x0100) ∧
    (r.state = .stopping → s.ws.stopMarks ≤ timer →
      ∃ t, exec (.stopTimeout x) s = .next t ∧ outerPart t = outerPart s ∧
        t.seq.trains.get x =
          { r with state := .tripped, timer := 0, load := 0, windowCount := 0, cause := .stopTimeout } ∧
        Sent 0x51 [BitVec.ofNat 8 (trainCode x), trip, 0, 0] s t) ∧
    (r.state = .warm → s.ws.warmHoldMarks ≤ timer →
      ∃ t, exec (.warmHoldExpiry x) s = .next t ∧ outerPart t = outerPart s ∧
        (t.seq.trains.get x).state ≠ .warm ∧
        (s.mode ≠ .operate → (s.seq.sides.get x.side).pendingStart = false →
          t.seq.trains.get x = { r with state := .cold, timer := 0, load := 0, windowCount := 0 }))

/-- When the stop-newest test has held for stop_delay_marks the newest train of the side is stopped with a STOP command, and
the stop count returns to 0 (R126, R131). That this command is the share of its mark for the one side is the model's choice
(log entry 3). STOP_NEWEST. -/
def Obligations.NewestTrainIsStopped : Prop :=
  ∀ (s : State) (sd : Side) (n : Train), running s = true → ListsHoldTheirTrains s → s.mode = .operate →
    let x := s.seq.sides.get sd
    (∀ t, t.side = sd → (s.seq.trains.get t).state ≠ .starting) → x.order.getLast? = some n → 2 ≤ x.order.length →
    x.target * 1000 ≤ ((x.order.map s.ws.rating.get).sum - s.ws.rating.get n) * s.ws.stopPermille →
    s.ws.stopDelayMarks ≤ x.stopCount + 1 →
    ∃ t, exec (.stopNewest sd) s = .next t ∧ outerPart t = outerPart s ∧
      t.seq.trains.get n = { s.seq.trains.get n with state := .stopping, timer := 0, load := 0, windowCount := 0 } ∧
      n ∉ (t.seq.sides.get sd).order ∧ (t.seq.sides.get sd).stopCount = 0 ∧
      (∀ y, y.side ≠ sd → t.seq.trains.get y = s.seq.trains.get y) ∧
      Sent 0x51 [BitVec.ofNat 8 (trainCode n), 1, 0, 0] s t

/-- TRAIN_START in MANUAL, where the host may start trains (allow_host_start 1, log entry 13), starts a COLD or WARM train
whose side's permit line is high, read as driven (log entry 41), and whose window holds the pressure: STARTING with the limit
of the state it left, released from hold-out, on its side's list, a START command sent (R118, R119, R126, R134). -/
def Obligations.TrainStartStarts : Prop :=
  ∀ (s : State) (f : Frame) (x : Train), Asked 0x20 f s → f.body = [BitVec.ofNat 8 (trainCode x + 1)] →
    ListsHoldTheirTrains s → s.mode = .manual → s.ws.allowHostStart = 1 →
    let r := s.seq.trains.get x
    (r.state = .cold ∨ r.state = .warm) → s.permits.get x.side = true →
    s.ws.windowBase.get x ≤ s.meas.table.pressure.value → s.meas.table.pressure.value ≤ s.ws.windowLimit.get x →
    ∃ t, exec .trainStart s = .next t ∧ outerPart t = outerPart (answered f [0] s) ∧
      t.seq.trains.get x =
        { r with state := .starting, timer := 0, load := 0, windowCount := 0, heldOut := false,
                 startLimit := if r.state = .warm then s.ws.warmStartMarks else s.ws.coldStartMarks } ∧
      x ∈ (t.seq.sides.get x.side).order ∧ (∀ y, y.side ≠ x.side → t.seq.trains.get y = s.seq.trains.get y) ∧
      Sent 0x51 [BitVec.ofNat 8 (trainCode x), 0, 0, 0] s t

/-- TRAIN_STOP outside SETUP, where the host may stop trains (allow_host_stop 1, log entry 13): a STARTING or RUNNING train is
stopped, and in OPERATE held out as well; a COLD, WARM or STOPPING train is held out in OPERATE and left as it is in MANUAL
(R122, R135). -/
def Obligations.TrainStopStopsOrHoldsOut : Prop :=
  ∀ (s : State) (f : Frame) (x : Train), Asked 0x21 f s → f.body = [BitVec.ofNat 8 (trainCode x + 1)] →
    ListsHoldTheirTrains s → s.mode ≠ .setup → s.ws.allowHostStop = 1 →
    let r := s.seq.trains.get x
    ((r.state = .starting ∨ r.state = .running) →
      ∃ t, exec .trainStop s = .next t ∧ outerPart t = outerPart (answered f [0] s) ∧
        t.seq.trains.get x = { r with state := .stopping, timer := 0, load := 0, windowCount := 0,
                                      heldOut := r.heldOut || s.mode == .operate } ∧
        Sent 0x51 [BitVec.ofNat 8 (trainCode x), 1, 0, 0] s t) ∧
    ((r.state = .cold ∨ r.state = .warm ∨ r.state = .stopping) →
      (s.mode = .manual → exec .trainStop s = .next (answered f [0] s)) ∧
      (s.mode = .operate → ∃ t, exec .trainStop s = .next t ∧ outerPart t = outerPart (answered f [0] s) ∧
        t.seq.trains.get x = { r with heldOut := true }))

/-- TRAIN_LOCK takes a COLD or WARM train, or a TRIPPED one whose TRAIN_FAULT entry is NORMAL, to OFFLINE, released from
hold-out and with no cause; TRAIN_UNLOCK brings it back; TRAIN_RESET brings a TRIPPED train back when its TRAIN_FAULT entry
is NORMAL and the field reports it STOPPED. A train brought back is COLD where nothing starts it (R136, R137). -/
def Obligations.TrainsLeaveAndReturnToUse : Prop :=
  ∀ (s : State) (f : Frame) (x : Train), f.body = [BitVec.ofNat 8 (trainCode x + 1)] → ListsHoldTheirTrains s →
    let r := s.seq.trains.get x
    let normal := (s.prot.entries.get (.trainFault x)).state = .normal
    let report := s.meas.table.report.get x
    (Asked 0x22 f s → (r.state = .cold ∨ r.state = .warm ∨ (r.state = .tripped ∧ normal)) →
      ∃ t, exec .trainLock s = .next t ∧ outerPart t = outerPart (answered f [0] s) ∧
        t.seq.trains.get x = { r with state := .offline, timer := 0, load := 0, windowCount := 0, heldOut := false,
                                      cause := .none }) ∧
    (Asked 0x23 f s → r.state = .offline → normal →
      ∃ t, exec .trainUnlock s = .next t ∧ outerPart t = outerPart (answered f [0] s) ∧
        (t.seq.trains.get x).state ≠ .offline ∧
        (s.mode ≠ .operate → (s.seq.sides.get x.side).pendingStart = false →
          t.seq.trains.get x = { r with state := .cold, timer := 0, load := 0, windowCount := 0 })) ∧
    (Asked 0x24 f s → r.state = .tripped → normal → report.value = .stopped →
      (report.quality = .good ∨ report.quality = .held) →
      ∃ t, exec .trainReset s = .next t ∧ outerPart t = outerPart (answered f [0] s) ∧
        (t.seq.trains.get x).state ≠ .tripped ∧
        (s.mode ≠ .operate → (s.seq.sides.get x.side).pendingStart = false →
          t.seq.trains.get x = { r with state := .cold, timer := 0, load := 0, windowCount := 0, cause := .none }))

/-- The shares of the RUNNING trains of a side: each from its min load to its rating, together no less than the smaller of
the target and the rating sum, and exactly that where no min load raises a share, that is where each min load is at most the
share of steps 1 and 2: floor(U × rating / R), and one more for as many of the oldest as the remainder counts (R132). -/
def Obligations.SharesCarryTheTarget : Prop :=
  ∀ (w : WorkingSet) (run : List Train) (T : Int), run.Nodup → run ≠ [] → 0 ≤ T →
    (∀ t ∈ run, 0 < w.rating.get t ∧ 0 ≤ w.minLoad.get t ∧ w.minLoad.get t ≤ w.rating.get t) →
    let R := (run.map w.rating.get).sum
    let share := trainShare w run T
    let base : Train → Int := fun t => min T R * w.rating.get t / R
    let remainder := min T R - (run.map base).sum
    let unraised : Train → Int := fun t => base t + if (run.idxOf t : Int) < remainder then 1 else 0
    (∀ t ∈ run, w.minLoad.get t ≤ share t ∧ share t ≤ w.rating.get t) ∧ min T R ≤ (run.map share).sum ∧
      ((∀ t ∈ run, w.minLoad.get t ≤ unraised t) → (run.map share).sum = min T R)

/-- Every step keeps each side's start-order list to its STARTING and RUNNING trains, each once (R126). -/
def Obligations.StartOrderListsHoldTheirTrains : Prop :=
  ∀ s t : State, ListsHoldTheirTrains s → step s = .next t → ListsHoldTheirTrains t

/-! ## Protection unit (chapter 8) -/

/-- A PENDING entry whose condition has held for its delay trips: TRIPPED, or LATCHED when its trip count reaches its
latch limit, with its record, its alarm and the permits of the sides it blocks low; a MODULE_HOT entry isolates its module
and a TRAIN_FAULT entry trips its train; no other entry changes (R144, R145, R147, R149, R151, R152, R154). That this
command is the evaluation of its entry on the quantity as it stands is the model's choice (log entry 3), and that an enable
of 1 is yes is its reading (log entry 13). PROT_DELAY_EXPIRY. -/
def Obligations.DelayExpiryTrips : Prop :=
  ∀ (s : State) (e : ProtEntry) (q : Int), running s = true → ListsHoldTheirTrains s →
    let r := s.prot.entries.get e
    let n := min 255 (r.tripCount + 1)
    let limit := entryLatchLimit s.ws e
    let latched : Bool := limit ≠ 0 ∧ limit ≤ (n : Int)
    r.state = .pending → entryEnabled s.ws e = true → quantity s e = some q →
    condition s.ws s.heat.active.discharge e q = true → entryDelay s.ws e ≤ (r.evalCount + 1 : Nat) →
    ∃ t, exec (.protDelayExpiry e) s = .next t ∧ farPart t = farPart s ∧
      t.prot.entries = s.prot.entries.set e ⟨if latched then .latched else .tripped, 0, n, 0, some q⟩ ∧
      t.prot.trips.getLast? = some
        ⟨s.prot.seqCounter, e, latched, q, s.clock.timeValid, s.clock.interval, s.clock.mark⟩ ∧
      t.prot.seqCounter = s.prot.seqCounter + 1 ∧
      (if latched then t.link.alarms &&& 0x0002 = 0x0002 else t.link.alarms &&& 0x0001 = 0x0001) ∧
      (∀ sd, actionBlocks (entryAction s.ws e) sd = true → t.permits.get sd = false) ∧
      (∀ m, e = .moduleHot m → (t.heat.modules.get m).role = .isolated) ∧
      (∀ x, e = .trainFault x → (s.seq.trains.get x).state ≠ .offline →
        (t.seq.trains.get x).state = .tripped ∧
        (t.seq.trains.get x).cause = (if latched then .protection else .fieldFault))

/-- A RECOVERING entry whose recovery condition has held for its recovery delay returns to NORMAL, its trip count kept and no
record made; the permits are formed anew, and a MODULE_HOT entry releases its module (R144, R146, R150, R151). That this
command is the evaluation of its entry on the quantity as it stands is the model's choice (log entry 3), and that an enable
of 1 is yes is its reading (log entry 13). PROT_RECOVERY_DELAY_EXPIRY. -/
def Obligations.RecoveryDelayReturnsToNormal : Prop :=
  ∀ (s : State) (e : ProtEntry) (q : Int), running s = true →
    let r := s.prot.entries.get e
    r.state = .recovering → entryEnabled s.ws e = true → quantity s e = some q →
    recovery s.ws s.heat.active.discharge e q = true → entryRecoveryDelay s.ws e ≤ (r.evalCount + 1 : Nat) →
    ∃ t, exec (.protRecoveryDelayExpiry e) s = .next t ∧ farPart t = farPart s ∧
      t.prot = { s.prot with entries := s.prot.entries.set e ⟨.normal, 0, r.tripCount, 0, some q⟩ } ∧
      t.permits = .ofFn (permitLevel t) ∧
      (∀ m, e = .moduleHot m → (t.heat.modules.get m).role ≠ .isolated)

/-- PROT_RECOVER, in SETUP or where allowed online (allow_recover_online 1, log entry 13): each named LATCHED entry that
is disabled, or whose recovery condition holds on the value it is judged by, returns to NORMAL with every count 0; every
other entry stands; the reply lists what is LATCHED afterwards (R155). -/
def Obligations.RecoverIsJudged : Prop :=
  ∀ (s : State) (f : Frame) (es : List ProtEntry), Asked 0x2C f s → 1 ≤ es.length → es.length ≤ 22 →
    f.body = BitVec.ofNat 8 es.length :: es.map (fun e => BitVec.ofNat 8 (entryNumber e)) →
    (s.mode = .setup ∨ s.ws.allowRecoverOnline = 1) →
    let freed := fun (e : ProtEntry) => e ∈ es ∧ (s.prot.entries.get e).state = .latched ∧
      (entryEnabled s.ws e = false ∨
        ∃ v, judgedValue s e = some v ∧ recovery s.ws s.heat.active.discharge e v = true)
    ∃ t, exec .protRecover s = .next t ∧
      (∀ e, (freed e → t.prot.entries.get e = ⟨.normal, 0, 0, 0, (s.prot.entries.get e).last⟩) ∧
        (¬ freed e → t.prot.entries.get e = s.prot.entries.get e)) ∧
      t.prot.trips = s.prot.trips ∧ t.prot.seqCounter = s.prot.seqCounter ∧ t.permits = .ofFn (permitLevel t) ∧
      let left := ProtEntry.all.filter (fun e => (t.prot.entries.get e).state == .latched)
      farPart t = farPart (answered f
        (0 :: BitVec.ofNat 8 left.length :: left.map (fun e => BitVec.ofNat 8 (entryNumber e))) s)

/-- A LATCHED entry is left LATCHED by every command but PROT_RECOVER and start-up, whatever its condition, its enable and
the mode (R142, R147, R157). -/
def Obligations.LatchedIsLeftByRecoveryAlone : Prop :=
  ∀ (c : Instr) (s t : State) (e : ProtEntry), exec c s = .next t → (s.prot.entries.get e).state = .latched →
    c ≠ .protRecover → c ≠ .powerOn → c ≠ .resetInRise → (t.prot.entries.get e).state = .latched

/-- Every step keeps both permit lines at the levels of R150 while the part runs, and low while it does not: with
RESET_IN low by R169, and without supply by the model's choice (log entry 18) (R149, R150, R169). -/
def Obligations.PermitLinesFollowTheTable : Prop :=
  ∀ s t : State, PermitsFollowTheTable s → step s = .next t → PermitsFollowTheTable t

/-! ## Mode controller (chapter 9) -/

/-- A MODE_SET to OPERATE from SETUP is refused NO_TIME while the time is invalid, and BAD_CONFIG with the number of the
first check of R159 that fails, check 7 with the number and item of the first setting out of its range. With the time
valid and every check passed it enters OPERATE: the mask reloaded, the book's LATE entries gone, the active slot a zero
entry of the current interval, staging filled by the policy with BOOK_EMPTY_NEXT, zero effective targets, and a run in
flight; the flow calculator's bounds then hold (R36, R76, R95, R111, R158, R159, R160). That settings are looked at by
number and then item, and that one that does not apply to its item is none, is the model's (log entry 16). -/
def Obligations.ModeSetEntersOperate : Prop :=
  ∀ (s : State) (f : Frame), Asked 0x34 f s → f.body = [1] → s.mode = .setup →
    let outOfRange := fun (x : Setting) => rangeOk s.ws x (settingGet s.ws x) = some false
    let passed := ∀ n, 1 ≤ n → n ≤ 6 → OperateCheck s.ws n
    (s.clock.timeValid = false → exec .modeSet s = .next (answered f [6] s)) ∧
    (s.clock.timeValid = true →
      (∀ n, 1 ≤ n → n ≤ 6 → (∀ k, 1 ≤ k → k < n → OperateCheck s.ws k) → ¬ OperateCheck s.ws n →
        exec .modeSet s = .next (answered f [17, BitVec.ofNat 8 n] s)) ∧
      (∀ (num item : Nat) (x : Setting), passed → settingOf num item = some x → outOfRange x →
        (∀ (m i : Nat) (y : Setting), settingOf m i = some y → m < num ∨ (m = num ∧ i < item) → ¬ outOfRange y) →
        exec .modeSet s = .next (answered f [17, 7, BitVec.ofNat 8 num, BitVec.ofNat 8 item] s))) ∧
    (s.clock.timeValid = true → passed → (∀ x, ¬ outOfRange x) → FlowBounds s.ws ∧
    ∃ t, exec .modeSet s = .next t ∧ t.mode = .operate ∧ t.ws = s.ws ∧ t.meas = s.meas ∧ t.store = s.store ∧
      t.prot = s.prot ∧ t.book.groups = s.book.groups ∧ t.pending = s.pending ∧
      t.link.queue = (answered f [0] s).link.queue ∧ t.link.hostTx = (answered f [0] s).link.hostTx ∧
      t.link.mask = BitVec.ofInt 16 s.ws.defaultAlarmMask &&& 0x1FFF ∧ t.link.alarms &&& 0x0800 = 0x0800 ∧
      t.permits = .ofFn (permitLevel t) ∧
      t.book.entries.map (·.put) = (s.book.entries.filter (fun e =>
        let d := (e.put.interval - s.clock.interval).toNat
        2 ≤ d ∧ d ≤ 2147483648)).map (·.put) ∧
      t.clock.timeValid = true ∧ t.clock.interval = s.clock.interval ∧ t.clock.mark = s.clock.mark ∧
      t.clock.active.map (fun x => x.entry.put) = some ⟨s.clock.interval, 0, 0, 0, none⟩ ∧
      t.clock.staging.map (fun x => (x.entry.put.interval, x.entry.put.reserve, x.source)) =
        some (s.clock.interval + 1, none, .policy) ∧
      t.clock.deployment = 0 ∧ t.clock.ramp.kind = .none ∧ t.clock.dispatch = ⟨0, 0⟩ ∧
      t.clock.record.charge.effective = 0 ∧ t.clock.record.discharge.effective = 0 ∧ t.proj.run.isSome = true)

/-- The other mode changes: OPERATE to MANUAL takes the effective targets over, ends the ramp and the deployment; MANUAL to
OPERATE ramps back from the manual targets; SETUP is refused BUSY while a train is active, and entered otherwise: both permit
lines low, slots and groups empty, every entry PENDING, the run abandoned, no rate, hold-outs ended (R18, R56, R76, R95, R109,
R110, R112, R139, R150, R158, R161, R162). MODE_SET. -/
def Obligations.ModeSetLeavesTheMode : Prop :=
  ∀ (s : State) (f : Frame), Asked 0x34 f s → ListsHoldTheirTrains s →
    let active := ∃ x, (s.seq.trains.get x).state = .starting ∨ (s.seq.trains.get x).state = .running ∨
      (s.seq.trains.get x).state = .stopping
    let due := ∃ sl, s.clock.staging = some sl ∧ 1 ≤ sl.entry.put.lead ∧
      s.ws.intervalLength - sl.entry.put.lead ≤ s.clock.mark
    let kept := fun (t : State) => t.ws = s.ws ∧ t.store = s.store ∧ t.prot = s.prot ∧ t.pending = s.pending ∧
      t.link.queue = (answered f [0] s).link.queue ∧ t.link.hostTx = (answered f [0] s).link.hostTx ∧
      t.link.mask = s.link.mask ∧ t.permits = .ofFn (permitLevel t)
    (f.body = [2] → s.mode = .operate → ∃ t, exec .modeSet s = .next t ∧ kept t ∧ t.mode = .manual ∧ t.meas = s.meas ∧
      t.clock.manual = ⟨s.clock.record.charge.effective, s.clock.record.discharge.effective⟩ ∧
      t.clock.deployment = 0 ∧ t.clock.ramp.kind = .none ∧
      (∀ sd, (t.seq.sides.get sd).pendingStart = false ∧ (t.seq.sides.get sd).stopCount = 0) ∧
      (∀ x, (t.seq.trains.get x).heldOut = (s.seq.trains.get x).heldOut)) ∧
    (f.body = [1] → s.mode = .manual → ∃ t, exec .modeSet s = .next t ∧ kept t ∧
      t.mode = .operate ∧ t.meas = s.meas ∧ t.clock.deployment = s.clock.deployment ∧
      t.clock.manual = s.clock.manual ∧
      (due → t.clock.ramp = ⟨.interval, s.clock.mark, s.ws.intervalLength - s.clock.mark, s.clock.manual⟩ ∧
        t.clock.dispatch = s.clock.manual) ∧
      (¬ due → s.ws.rejoinLead ≠ 0 →
        t.clock.ramp = ⟨.rejoin, s.clock.mark, s.ws.rejoinLead, s.clock.manual⟩ ∧ t.clock.dispatch = s.clock.manual) ∧
      (¬ due → s.ws.rejoinLead = 0 → t.clock.ramp = s.clock.ramp ∧
        t.clock.dispatch = (match s.clock.active with | some sl => sl.entry.feas.clipped | none => ⟨0, 0⟩))) ∧
    (f.body = [0] → s.mode ≠ .setup → active → exec .modeSet s = .next (answered f [2] s)) ∧
    (f.body = [0] → s.mode ≠ .setup → ¬ active → ∃ t, exec .modeSet s = .next t ∧ kept t ∧ t.mode = .setup ∧
      t.permits = .both false ∧ t.meas = { s.meas with ring := [], rate := none } ∧
      t.clock.active = none ∧ t.clock.staging = none ∧ t.clock.ramp.kind = .none ∧ t.clock.deployment = 0 ∧
      t.clock.manual = ⟨0, 0⟩ ∧ t.clock.dispatch = ⟨0, 0⟩ ∧ t.clock.interval = s.clock.interval ∧
      t.clock.mark = s.clock.mark ∧ t.clock.timeValid = s.clock.timeValid ∧ (∀ g, t.book.groups.get g = none) ∧
      t.book.entries = s.book.entries.map (fun e =>
        { e with feas := ⟨.pending, ⟨0, 0⟩, ⟨false, false, false, false, false⟩, .none, 0, 0, false⟩ }) ∧
      t.proj.run = none ∧ t.proj.rerun = false ∧ t.proj.summary = { s.proj.summary with valid := false } ∧
      (∀ sd, (t.heat.sets.get sd).members = [] ∧ (t.seq.sides.get sd).pendingStart = false ∧
        (t.seq.sides.get sd).stopCount = 0) ∧
      (∀ x, (t.seq.trains.get x).heldOut = false ∧ (t.seq.trains.get x).state = (s.seq.trains.get x).state) ∧
      (∀ m, (t.heat.modules.get m).role = (if (s.heat.modules.get m).role = .isolated then .isolated else .idle)))

/-- TIME_SET in SETUP with a mark below L gives the clock its time, valid, and leaves in the book the entries from current+2
to current+192; the reply carries the time held and the number removed (R74, R98, R165). -/
def Obligations.TimeSetIsTaken : Prop :=
  ∀ (s : State) (f : Frame), Asked 0x35 f s → f.body.length = 6 → s.mode = .setup →
    u16At f.body 4 < s.ws.intervalLength →
    let n := intervalAt f.body 0
    let left := s.book.entries.filter (fun e =>
      let d := (e.put.interval - n).toNat
      2 ≤ d ∧ d ≤ 192)
    exec .timeSet s = .next (answered f
      (0 :: (be4 n.toNat ++ be2 (u16At f.body 4) ++ be1n (s.book.entries.length - left.length)))
      { s with
        clock := { s.clock with timeValid := true, interval := n, mark := u16At f.body 4 }
        book := { s.book with entries := left } })

/-- CONFIG_PUT refuses BAD_ARG a value outside the setting's table, and one that would leave a min load above its rating
(R117, R141). Accepted, it gives the setting it names the value written, changes no other setting and no map node, sets the
unsaved-changes flag and answers the value held; a new interval length makes the time invalid and empties the book and the
groups, a new capacity caps the module's stored heat, and an entry disabled while PENDING, TRIPPED or RECOVERING becomes
NORMAL with every count 0, its module released and the permit lines formed (R37, R75, R142, R164, R166). Read
by the model and not stated in the spec: that an enable of 0 is no, so that it disables the entry, and that a yes-or-no
setting is yes when 1 (log entry 13); that default_alarm_mask takes any word and loses bits 13 to 15 (10.4.1, 10.7; log
entry 27). -/
def Obligations.ConfigPutWritesTheSetting : Prop :=
  ∀ (s : State) (f : Frame) (x : Setting), Asked 0x36 f s → f.body.length = 6 →
    settingOf (byteAt f.body 0) (byteAt f.body 1) = some x → s.store.status ≠ .saveBusy →
    (s.mode = .setup ∨ x ∈ [.allowHostStart, .allowHostStop, .allowRecoverOnline, .defaultAlarmMask]) →
    let v := s32At f.body 2
    (¬ MayBeWritten s.ws x v → exec .configPut s = .next (answered f [4] s)) ∧
    (MayBeWritten s.ws x v →
    let held := if x = .defaultAlarmMask then v % 8192 else v
    let newL := x = .intervalLength ∧ v ≠ s.ws.intervalLength
    ∃ t, exec .configPut s = .next t ∧ settingGet t.ws x = held ∧
      (∀ y, y ≠ x → settingGet t.ws y = settingGet s.ws y) ∧ t.ws.cmap = s.ws.cmap ∧ t.ws.emap = s.ws.emap ∧
      t.store = { s.store with unsaved := true } ∧ t.mode = s.mode ∧ t.meas = s.meas ∧ t.pending = s.pending ∧
      (newL → t.clock.timeValid = false ∧ t.book.entries = [] ∧ ∀ g, t.book.groups.get g = none) ∧
      (x = .intervalLength → ¬ newL → t.clock = s.clock ∧ t.book = s.book) ∧
      (∀ m, x = .capacity m → (t.heat.modules.get m).stored = min v (s.heat.modules.get m).stored) ∧
      (∀ e, x = .enable e → v = 0 →
        let r := s.prot.entries.get e
        let ends := r.state = .pending ∨ r.state = .tripped ∨ r.state = .recovering
        t.prot = { s.prot with entries := s.prot.entries.set e (if ends then ⟨.normal, 0, 0, 0, r.last⟩ else r) } ∧
        (∀ m, e = .moduleHot m → r.state = .tripped ∨ r.state = .recovering →
          (t.heat.modules.get m).role ≠ .isolated)) ∧
      ((∀ e, x ≠ .enable e) ∨ v ≠ 0 → t.prot = s.prot) ∧
      (∀ e, x = .enable e ∨ x = .action e → t.permits = .ofFn (permitLevel t)) ∧
      t.link.queue = (answered f [] s).link.queue ∧
      t.link.hostTx = s.link.hostTx ++ [⟨0xB6, f.tag, 0 :: (be4 held ++
        if x = .intervalLength then
          be1n (s.book.entries.length - t.book.entries.length) ++ beFlag t.clock.timeValid
        else [])⟩])

/-- An accepted MAP_PUT gives one node of one map its value and changes no other (R20, R164); an accepted CONFIG_SAVE makes
the store SAVE_BUSY, and its completion writes the image, IDLE and saved, when the CRC read back matches, and is SAVE_FAILED
otherwise (R168). The model's own choices here: a failed save leaves the unsaved-changes flag as it stood, also where it was
no, while R168 speaks of it staying yes (log entry 38); and the completion command carries the CRC read back, which is held
against a CRC over image bytes whose layout is free (log entry 11). MAP_PUT, CONFIG_SAVE, CONFIG_SAVE_COMPLETE. -/
def Obligations.MapPutAndSaveWrite : Prop :=
  (∀ (s : State) (f : Frame) (i j : Nat) (v : Int), Asked 0x37 f s → s.mode = .setup → s.store.status ≠ .saveBusy →
    i ≤ 6 → j ≤ 4 → 100 ≤ v → v ≤ 2000 →
    (f.body = [0, BitVec.ofNat 8 i, BitVec.ofNat 8 j] ++ be2 v → ∃ m : MapNodes,
      exec .mapPut s = .next (answered f [0]
        { s with ws := { s.ws with cmap := m }, store := { s.store with unsaved := true } }) ∧ node m i j = v ∧
      ∀ i' j', j' ≤ 4 → (i' ≠ i ∨ j' ≠ j) → node m i' j' = node s.ws.cmap i' j') ∧
    (f.body = [1, BitVec.ofNat 8 i, BitVec.ofNat 8 j] ++ be2 v → ∃ m : MapNodes,
      exec .mapPut s = .next (answered f [0]
        { s with ws := { s.ws with emap := m }, store := { s.store with unsaved := true } }) ∧ node m i j = v ∧
      ∀ i' j', j' ≤ 4 → (i' ≠ i ∨ j' ≠ j) → node m i' j' = node s.ws.emap i' j')) ∧
  (∀ (s : State) (f : Frame), Asked 0x38 f s → f.body = [] → s.store.status ≠ .saveBusy →
    exec .configSave s = .next (answered f [0] { s with store := { s.store with status := .saveBusy } })) ∧
  (∀ (s : State) (crc : Word16), running s = true → s.store.status = .saveBusy →
    let written : StoreState :=
      if crc = imageCrc s.ws then
        { s.store with status := .idle, unsaved := false, image := .stored s.ws (imageCrc s.ws) }
      else { s.store with status := .saveFailed, image := .broken }
    exec (.configSaveComplete crc) s = .next { s with store := written })

/-- Outside SETUP no command but a start-up changes a map node or a setting, save the four that every mode may write (R164,
R19, R117, R141). -/
def Obligations.WorkingSetIsFrozenOutsideSetup : Prop :=
  ∀ (c : Instr) (s t : State), exec c s = .next t → s.mode ≠ .setup → c ≠ .powerOn → c ≠ .resetInRise →
    t.ws.cmap = s.ws.cmap ∧ t.ws.emap = s.ws.emap ∧
      ∀ x : Setting, x ∉ [.allowHostStart, .allowHostStop, .allowRecoverOnline, .defaultAlarmMask] →
        settingGet t.ws x = settingGet s.ws x

/-! ## Alarms and reset -/

/-- Every step keeps ALERT low exactly while the part runs and a latched alarm is set in the live mask, with no bit above 12
in either word (R177, R178, 10.7). That ALERT is released while RESET_IN is low is R169, and that it is released without
supply is the model's choice (log entry 18). -/
def Obligations.AlertLineFollowsTheAlarms : Prop :=
  ∀ s t : State, AlertFollowsTheAlarms s → step s = .next t → AlertFollowsTheAlarms t

/-- The state after reset meets every invariant: the permit lines by the table, the lists, the book, ALERT and the heats.
That reset is a start-up on a blank image with both lines high is the model's choice (log entry 5). -/
def Obligations.ResetMeetsTheInvariants : Prop :=
  PermitsFollowTheTable State.reset ∧ ListsHoldTheirTrains State.reset ∧ BookInHorizon State.reset ∧
    AlertFollowsTheAlarms State.reset ∧ HeatWithinCapacity State.reset
end

