-- ==== Sys2Proof/Laws/State.lean ====
section
/-! SUPPORT. The small lemmas of the state: reading a record of items after an update of it, and, for each named update of
State, every field it leaves and the field it writes. All are true by computation; no later proof unfolds an update. -/
namespace Sys2Proof

variable {α : Type}

/-- Reading back what was written. -/
@[simp] theorem PerLink.get_set_self (x : PerLink α) (i : Link) (a : α) : (x.set i a).get i = a := by cases i <;> rfl

/-- Writing one item leaves the others. -/
theorem PerLink.get_set_ne (x : PerLink α) {i j : Link} (a : α) (h : j ≠ i) : (x.set i a).get j = x.get j := by
  cases i <;> cases j <;> first | rfl | exact absurd rfl h

/-- A record formed by a function reads as the function. -/
@[simp] theorem PerLink.get_ofFn (f : Link → α) (i : Link) : (PerLink.ofFn f).get i = f i := by cases i <;> rfl

/-- Two records that read alike are equal. -/
theorem PerLink.ext_get {x y : PerLink α} (h : ∀ i, x.get i = y.get i) : x = y := by
  cases x; cases y; congr 1 <;> first | exact h .host | exact h .field

/-- Reading back what was written. -/
@[simp] theorem PerSide.get_set_self (x : PerSide α) (i : Side) (a : α) : (x.set i a).get i = a := by cases i <;> rfl

/-- Writing one item leaves the others. -/
theorem PerSide.get_set_ne (x : PerSide α) {i j : Side} (a : α) (h : j ≠ i) : (x.set i a).get j = x.get j := by
  cases i <;> cases j <;> first | rfl | exact absurd rfl h

/-- A record formed by a function reads as the function. -/
@[simp] theorem PerSide.get_ofFn (f : Side → α) (i : Side) : (PerSide.ofFn f).get i = f i := by cases i <;> rfl

/-- Two records that read alike are equal. -/
theorem PerSide.ext_get {x y : PerSide α} (h : ∀ i, x.get i = y.get i) : x = y := by
  cases x; cases y; congr 1 <;> first | exact h .charge | exact h .discharge

/-- Reading back what was written. -/
@[simp] theorem PerTrain.get_set_self (x : PerTrain α) (i : Train) (a : α) : (x.set i a).get i = a := by cases i <;> rfl

/-- Writing one item leaves the others. -/
theorem PerTrain.get_set_ne (x : PerTrain α) {i j : Train} (a : α) (h : j ≠ i) : (x.set i a).get j = x.get j := by
  cases i <;> cases j <;> first | rfl | exact absurd rfl h

/-- A record formed by a function reads as the function. -/
@[simp] theorem PerTrain.get_ofFn (f : Train → α) (i : Train) : (PerTrain.ofFn f).get i = f i := by cases i <;> rfl

/-- Two records that read alike are equal. -/
theorem PerTrain.ext_get {x y : PerTrain α} (h : ∀ i, x.get i = y.get i) : x = y := by
  cases x; cases y; congr 1 <;> first | exact h .c1 | exact h .c2 | exact h .c3 | exact h .c4 | exact h .e1 | exact h .e2 | exact h .e3

/-- Reading back what was written. -/
@[simp] theorem PerModule.get_set_self (x : PerModule α) (i : HeatModule) (a : α) : (x.set i a).get i = a := by cases i <;> rfl

/-- Writing one item leaves the others. -/
theorem PerModule.get_set_ne (x : PerModule α) {i j : HeatModule} (a : α) (h : j ≠ i) : (x.set i a).get j = x.get j := by
  cases i <;> cases j <;> first | rfl | exact absurd rfl h

/-- A record formed by a function reads as the function. -/
@[simp] theorem PerModule.get_ofFn (f : HeatModule → α) (i : HeatModule) : (PerModule.ofFn f).get i = f i := by cases i <;> rfl

/-- Two records that read alike are equal. -/
theorem PerModule.ext_get {x y : PerModule α} (h : ∀ i, x.get i = y.get i) : x = y := by
  cases x; cases y; congr 1 <;> first | exact h .h1 | exact h .h2 | exact h .h3 | exact h .h4 | exact h .h5 | exact h .h6

/-- Reading back what was written. -/
@[simp] theorem PerTransducer.get_set_self (x : PerTransducer α) (i : Transducer) (a : α) : (x.set i a).get i = a := by cases i <;> rfl

/-- Writing one item leaves the others. -/
theorem PerTransducer.get_set_ne (x : PerTransducer α) {i j : Transducer} (a : α) (h : j ≠ i) : (x.set i a).get j = x.get j := by
  cases i <;> cases j <;> first | rfl | exact absurd rfl h

/-- A record formed by a function reads as the function. -/
@[simp] theorem PerTransducer.get_ofFn (f : Transducer → α) (i : Transducer) : (PerTransducer.ofFn f).get i = f i := by cases i <;> rfl

/-- Two records that read alike are equal. -/
theorem PerTransducer.ext_get {x y : PerTransducer α} (h : ∀ i, x.get i = y.get i) : x = y := by
  cases x; cases y; congr 1 <;> first | exact h .p1 | exact h .p2 | exact h .p3

/-- Reading back what was written. -/
@[simp] theorem PerGroup.get_set_self (x : PerGroup α) (i : GroupId) (a : α) : (x.set i a).get i = a := by cases i <;> rfl

/-- Writing one item leaves the others. -/
theorem PerGroup.get_set_ne (x : PerGroup α) {i j : GroupId} (a : α) (h : j ≠ i) : (x.set i a).get j = x.get j := by
  cases i <;> cases j <;> first | rfl | exact absurd rfl h

/-- A record formed by a function reads as the function. -/
@[simp] theorem PerGroup.get_ofFn (f : GroupId → α) (i : GroupId) : (PerGroup.ofFn f).get i = f i := by cases i <;> rfl

/-- Two records that read alike are equal. -/
theorem PerGroup.ext_get {x y : PerGroup α} (h : ∀ i, x.get i = y.get i) : x = y := by
  cases x; cases y; congr 1 <;> first | exact h .g1 | exact h .g2 | exact h .g3 | exact h .g4

/-- Reading back what was written. -/
@[simp] theorem PerEntry.get_set_self (x : PerEntry α) (i : ProtEntry) (a : α) : (x.set i a).get i = a := by
  cases i <;> simp [PerEntry.get, PerEntry.set]

/-- Writing one entry leaves the others. -/
theorem PerEntry.get_set_ne (x : PerEntry α) {i j : ProtEntry} (a : α) (h : j ≠ i) : (x.set i a).get j = x.get j := by
  cases i <;> cases j <;> first
    | rfl
    | exact absurd rfl h
    | exact PerModule.get_set_ne _ _ (fun e => h (congrArg _ e))
    | exact PerTrain.get_set_ne _ _ (fun e => h (congrArg _ e))

/-- A record formed by a function reads as the function. -/
@[simp] theorem PerEntry.get_ofFn (f : ProtEntry → α) (i : ProtEntry) : (PerEntry.ofFn f).get i = f i := by
  cases i <;> simp [PerEntry.get, PerEntry.ofFn]

/-- Two records that read alike are equal. -/
theorem PerEntry.ext_get {x y : PerEntry α} (h : ∀ i, x.get i = y.get i) : x = y := by
  obtain ⟨a1, a2, a3, a4, a5, a6, a7, am, a8, a9, at_⟩ := x
  obtain ⟨b1, b2, b3, b4, b5, b6, b7, bm, b8, b9, bt⟩ := y
  have hm : am = bm := PerModule.ext_get (fun m => h (.moduleHot m))
  have ht : at_ = bt := PerTrain.ext_get (fun t => h (.trainFault t))
  have e1 : a1 = b1 := h .cavHigh
  have e2 : a2 = b2 := h .cavLow
  have e3 : a3 = b3 := h .cavRiseRate
  have e4 : a4 = b4 := h .cavFallRate
  have e5 : a5 = b5 := h .pressSensors
  have e6 : a6 = b6 := h .reheatLow
  have e7 : a7 = b7 := h .noHeatSink
  have e8 : a8 = b8 := h .fieldLoss
  have e9 : a9 = b9 := h .esd
  subst hm ht e1 e2 e3 e4 e5 e6 e7 e8 e9
  rfl

end Sys2Proof

namespace Sys2Proof.Machine

/-! ## setMeas -/

@[simp] theorem setMeas_power (m : MeasState) (s : State) : (setMeas m s).power = s.power := rfl
@[simp] theorem setMeas_resetIn (m : MeasState) (s : State) : (setMeas m s).resetIn = s.resetIn := rfl
@[simp] theorem setMeas_esdIn (m : MeasState) (s : State) : (setMeas m s).esdIn = s.esdIn := rfl
@[simp] theorem setMeas_permits (m : MeasState) (s : State) : (setMeas m s).permits = s.permits := rfl
@[simp] theorem setMeas_meas (m : MeasState) (s : State) : (setMeas m s).meas = m := rfl
@[simp] theorem setMeas_heat (m : MeasState) (s : State) : (setMeas m s).heat = s.heat := rfl
@[simp] theorem setMeas_book (m : MeasState) (s : State) : (setMeas m s).book = s.book := rfl
@[simp] theorem setMeas_proj (m : MeasState) (s : State) : (setMeas m s).proj = s.proj := rfl
@[simp] theorem setMeas_clock (m : MeasState) (s : State) : (setMeas m s).clock = s.clock := rfl
@[simp] theorem setMeas_seq (m : MeasState) (s : State) : (setMeas m s).seq = s.seq := rfl
@[simp] theorem setMeas_prot (m : MeasState) (s : State) : (setMeas m s).prot = s.prot := rfl
@[simp] theorem setMeas_mode (m : MeasState) (s : State) : (setMeas m s).mode = s.mode := rfl
@[simp] theorem setMeas_ws (m : MeasState) (s : State) : (setMeas m s).ws = s.ws := rfl
@[simp] theorem setMeas_store (m : MeasState) (s : State) : (setMeas m s).store = s.store := rfl
@[simp] theorem setMeas_link (m : MeasState) (s : State) : (setMeas m s).link = s.link := rfl
@[simp] theorem setMeas_choice (m : MeasState) (s : State) : (setMeas m s).choice = s.choice := rfl
@[simp] theorem setMeas_drawn (m : MeasState) (s : State) : (setMeas m s).drawn = s.drawn := rfl
@[simp] theorem setMeas_pending (m : MeasState) (s : State) : (setMeas m s).pending = s.pending := rfl

/-! ## handSink -/

@[simp] theorem handSink_power (s : State) : (handSink s).power = s.power := rfl
@[simp] theorem handSink_resetIn (s : State) : (handSink s).resetIn = s.resetIn := rfl
@[simp] theorem handSink_esdIn (s : State) : (handSink s).esdIn = s.esdIn := rfl
@[simp] theorem handSink_permits (s : State) : (handSink s).permits = s.permits := rfl
@[simp] theorem handSink_meas (s : State) : (handSink s).meas = s.meas := rfl
@[simp] theorem handSink_book (s : State) : (handSink s).book = s.book := rfl
@[simp] theorem handSink_proj (s : State) : (handSink s).proj = s.proj := rfl
@[simp] theorem handSink_clock (s : State) : (handSink s).clock = s.clock := rfl
@[simp] theorem handSink_seq (s : State) : (handSink s).seq = s.seq := rfl
@[simp] theorem handSink_prot (s : State) : (handSink s).prot = s.prot := rfl
@[simp] theorem handSink_mode (s : State) : (handSink s).mode = s.mode := rfl
@[simp] theorem handSink_ws (s : State) : (handSink s).ws = s.ws := rfl
@[simp] theorem handSink_store (s : State) : (handSink s).store = s.store := rfl
@[simp] theorem handSink_link (s : State) : (handSink s).link = s.link := rfl
@[simp] theorem handSink_choice (s : State) : (handSink s).choice = s.choice := rfl
@[simp] theorem handSink_drawn (s : State) : (handSink s).drawn = s.drawn := rfl
@[simp] theorem handSink_pending (s : State) : (handSink s).pending = s.pending := rfl
@[simp] theorem handSink_heat (s : State) : (handSink s).heat = { s.heat with sinkHanded := s.heat.noHeatSink } := rfl

/-! ## handedEntry -/

@[simp] theorem handedEntry_put (e : Entry) : (handedEntry e).put = e.put := rfl
@[simp] theorem handedEntry_revision (e : Entry) : (handedEntry e).revision = e.revision := rfl
@[simp] theorem handedEntry_feas (e : Entry) : (handedEntry e).feas = e.feas := rfl
@[simp] theorem handedEntry_putSinceRead (e : Entry) : (handedEntry e).putSinceRead = false := rfl

/-! ## setClock -/

@[simp] theorem setClock_power (c : ClockState) (s : State) : (setClock c s).power = s.power := rfl
@[simp] theorem setClock_resetIn (c : ClockState) (s : State) : (setClock c s).resetIn = s.resetIn := rfl
@[simp] theorem setClock_esdIn (c : ClockState) (s : State) : (setClock c s).esdIn = s.esdIn := rfl
@[simp] theorem setClock_permits (c : ClockState) (s : State) : (setClock c s).permits = s.permits := rfl
@[simp] theorem setClock_meas (c : ClockState) (s : State) : (setClock c s).meas = s.meas := rfl
@[simp] theorem setClock_heat (c : ClockState) (s : State) : (setClock c s).heat = s.heat := rfl
@[simp] theorem setClock_book (c : ClockState) (s : State) : (setClock c s).book = s.book := rfl
@[simp] theorem setClock_proj (c : ClockState) (s : State) : (setClock c s).proj = s.proj := rfl
@[simp] theorem setClock_clock (c : ClockState) (s : State) : (setClock c s).clock = c := rfl
@[simp] theorem setClock_seq (c : ClockState) (s : State) : (setClock c s).seq = s.seq := rfl
@[simp] theorem setClock_prot (c : ClockState) (s : State) : (setClock c s).prot = s.prot := rfl
@[simp] theorem setClock_mode (c : ClockState) (s : State) : (setClock c s).mode = s.mode := rfl
@[simp] theorem setClock_ws (c : ClockState) (s : State) : (setClock c s).ws = s.ws := rfl
@[simp] theorem setClock_store (c : ClockState) (s : State) : (setClock c s).store = s.store := rfl
@[simp] theorem setClock_link (c : ClockState) (s : State) : (setClock c s).link = s.link := rfl
@[simp] theorem setClock_choice (c : ClockState) (s : State) : (setClock c s).choice = s.choice := rfl
@[simp] theorem setClock_drawn (c : ClockState) (s : State) : (setClock c s).drawn = s.drawn := rfl
@[simp] theorem setClock_pending (c : ClockState) (s : State) : (setClock c s).pending = s.pending := rfl

/-! ## setRecord -/

@[simp] theorem setRecord_power (r : PerSide DispatchRec) (s : State) : (setRecord r s).power = s.power := rfl
@[simp] theorem setRecord_resetIn (r : PerSide DispatchRec) (s : State) : (setRecord r s).resetIn = s.resetIn := rfl
@[simp] theorem setRecord_esdIn (r : PerSide DispatchRec) (s : State) : (setRecord r s).esdIn = s.esdIn := rfl
@[simp] theorem setRecord_permits (r : PerSide DispatchRec) (s : State) : (setRecord r s).permits = s.permits := rfl
@[simp] theorem setRecord_meas (r : PerSide DispatchRec) (s : State) : (setRecord r s).meas = s.meas := rfl
@[simp] theorem setRecord_heat (r : PerSide DispatchRec) (s : State) : (setRecord r s).heat = s.heat := rfl
@[simp] theorem setRecord_book (r : PerSide DispatchRec) (s : State) : (setRecord r s).book = s.book := rfl
@[simp] theorem setRecord_proj (r : PerSide DispatchRec) (s : State) : (setRecord r s).proj = s.proj := rfl
@[simp] theorem setRecord_clock (r : PerSide DispatchRec) (s : State) :
    (setRecord r s).clock = { s.clock with record := r } := rfl
@[simp] theorem setRecord_seq (r : PerSide DispatchRec) (s : State) : (setRecord r s).seq = s.seq := rfl
@[simp] theorem setRecord_prot (r : PerSide DispatchRec) (s : State) : (setRecord r s).prot = s.prot := rfl
@[simp] theorem setRecord_mode (r : PerSide DispatchRec) (s : State) : (setRecord r s).mode = s.mode := rfl
@[simp] theorem setRecord_ws (r : PerSide DispatchRec) (s : State) : (setRecord r s).ws = s.ws := rfl
@[simp] theorem setRecord_store (r : PerSide DispatchRec) (s : State) : (setRecord r s).store = s.store := rfl
@[simp] theorem setRecord_link (r : PerSide DispatchRec) (s : State) : (setRecord r s).link = s.link := rfl
@[simp] theorem setRecord_choice (r : PerSide DispatchRec) (s : State) : (setRecord r s).choice = s.choice := rfl
@[simp] theorem setRecord_drawn (r : PerSide DispatchRec) (s : State) : (setRecord r s).drawn = s.drawn := rfl
@[simp] theorem setRecord_pending (r : PerSide DispatchRec) (s : State) : (setRecord r s).pending = s.pending := rfl

/-! ## setModule -/

@[simp] theorem setModule_power (m : HeatModule) (r : ModuleRec) (s : State) :
    (setModule m r s).power = s.power := rfl
@[simp] theorem setModule_resetIn (m : HeatModule) (r : ModuleRec) (s : State) :
    (setModule m r s).resetIn = s.resetIn := rfl
@[simp] theorem setModule_esdIn (m : HeatModule) (r : ModuleRec) (s : State) :
    (setModule m r s).esdIn = s.esdIn := rfl
@[simp] theorem setModule_permits (m : HeatModule) (r : ModuleRec) (s : State) :
    (setModule m r s).permits = s.permits := rfl
@[simp] theorem setModule_meas (m : HeatModule) (r : ModuleRec) (s : State) : (setModule m r s).meas = s.meas := rfl
@[simp] theorem setModule_heat (m : HeatModule) (r : ModuleRec) (s : State) :
    (setModule m r s).heat = { s.heat with modules := s.heat.modules.set m r } := rfl
@[simp] theorem setModule_book (m : HeatModule) (r : ModuleRec) (s : State) : (setModule m r s).book = s.book := rfl
@[simp] theorem setModule_proj (m : HeatModule) (r : ModuleRec) (s : State) : (setModule m r s).proj = s.proj := rfl
@[simp] theorem setModule_clock (m : HeatModule) (r : ModuleRec) (s : State) :
    (setModule m r s).clock = s.clock := rfl
@[simp] theorem setModule_seq (m : HeatModule) (r : ModuleRec) (s : State) : (setModule m r s).seq = s.seq := rfl
@[simp] theorem setModule_prot (m : HeatModule) (r : ModuleRec) (s : State) : (setModule m r s).prot = s.prot := rfl
@[simp] theorem setModule_mode (m : HeatModule) (r : ModuleRec) (s : State) : (setModule m r s).mode = s.mode := rfl
@[simp] theorem setModule_ws (m : HeatModule) (r : ModuleRec) (s : State) : (setModule m r s).ws = s.ws := rfl
@[simp] theorem setModule_store (m : HeatModule) (r : ModuleRec) (s : State) :
    (setModule m r s).store = s.store := rfl
@[simp] theorem setModule_link (m : HeatModule) (r : ModuleRec) (s : State) : (setModule m r s).link = s.link := rfl
@[simp] theorem setModule_choice (m : HeatModule) (r : ModuleRec) (s : State) :
    (setModule m r s).choice = s.choice := rfl
@[simp] theorem setModule_drawn (m : HeatModule) (r : ModuleRec) (s : State) :
    (setModule m r s).drawn = s.drawn := rfl
@[simp] theorem setModule_pending (m : HeatModule) (r : ModuleRec) (s : State) :
    (setModule m r s).pending = s.pending := rfl

/-! ## setEntries -/

@[simp] theorem setEntries_power (es : List Entry) (s : State) : (setEntries es s).power = s.power := rfl
@[simp] theorem setEntries_resetIn (es : List Entry) (s : State) : (setEntries es s).resetIn = s.resetIn := rfl
@[simp] theorem setEntries_esdIn (es : List Entry) (s : State) : (setEntries es s).esdIn = s.esdIn := rfl
@[simp] theorem setEntries_permits (es : List Entry) (s : State) : (setEntries es s).permits = s.permits := rfl
@[simp] theorem setEntries_meas (es : List Entry) (s : State) : (setEntries es s).meas = s.meas := rfl
@[simp] theorem setEntries_heat (es : List Entry) (s : State) : (setEntries es s).heat = s.heat := rfl
@[simp] theorem setEntries_book (es : List Entry) (s : State) :
    (setEntries es s).book = { s.book with entries := es } := rfl
@[simp] theorem setEntries_proj (es : List Entry) (s : State) : (setEntries es s).proj = s.proj := rfl
@[simp] theorem setEntries_clock (es : List Entry) (s : State) : (setEntries es s).clock = s.clock := rfl
@[simp] theorem setEntries_seq (es : List Entry) (s : State) : (setEntries es s).seq = s.seq := rfl
@[simp] theorem setEntries_prot (es : List Entry) (s : State) : (setEntries es s).prot = s.prot := rfl
@[simp] theorem setEntries_mode (es : List Entry) (s : State) : (setEntries es s).mode = s.mode := rfl
@[simp] theorem setEntries_ws (es : List Entry) (s : State) : (setEntries es s).ws = s.ws := rfl
@[simp] theorem setEntries_store (es : List Entry) (s : State) : (setEntries es s).store = s.store := rfl
@[simp] theorem setEntries_link (es : List Entry) (s : State) : (setEntries es s).link = s.link := rfl
@[simp] theorem setEntries_choice (es : List Entry) (s : State) : (setEntries es s).choice = s.choice := rfl
@[simp] theorem setEntries_drawn (es : List Entry) (s : State) : (setEntries es s).drawn = s.drawn := rfl
@[simp] theorem setEntries_pending (es : List Entry) (s : State) : (setEntries es s).pending = s.pending := rfl

/-! ## setGroup -/

@[simp] theorem setGroup_power (g : GroupId) (x : Option (List Change)) (s : State) :
    (setGroup g x s).power = s.power := rfl
@[simp] theorem setGroup_resetIn (g : GroupId) (x : Option (List Change)) (s : State) :
    (setGroup g x s).resetIn = s.resetIn := rfl
@[simp] theorem setGroup_esdIn (g : GroupId) (x : Option (List Change)) (s : State) :
    (setGroup g x s).esdIn = s.esdIn := rfl
@[simp] theorem setGroup_permits (g : GroupId) (x : Option (List Change)) (s : State) :
    (setGroup g x s).permits = s.permits := rfl
@[simp] theorem setGroup_meas (g : GroupId) (x : Option (List Change)) (s : State) :
    (setGroup g x s).meas = s.meas := rfl
@[simp] theorem setGroup_heat (g : GroupId) (x : Option (List Change)) (s : State) :
    (setGroup g x s).heat = s.heat := rfl
@[simp] theorem setGroup_book (g : GroupId) (x : Option (List Change)) (s : State) :
    (setGroup g x s).book = { s.book with groups := s.book.groups.set g x } := rfl
@[simp] theorem setGroup_proj (g : GroupId) (x : Option (List Change)) (s : State) :
    (setGroup g x s).proj = s.proj := rfl
@[simp] theorem setGroup_clock (g : GroupId) (x : Option (List Change)) (s : State) :
    (setGroup g x s).clock = s.clock := rfl
@[simp] theorem setGroup_seq (g : GroupId) (x : Option (List Change)) (s : State) :
    (setGroup g x s).seq = s.seq := rfl
@[simp] theorem setGroup_prot (g : GroupId) (x : Option (List Change)) (s : State) :
    (setGroup g x s).prot = s.prot := rfl
@[simp] theorem setGroup_mode (g : GroupId) (x : Option (List Change)) (s : State) :
    (setGroup g x s).mode = s.mode := rfl
@[simp] theorem setGroup_ws (g : GroupId) (x : Option (List Change)) (s : State) : (setGroup g x s).ws = s.ws := rfl
@[simp] theorem setGroup_store (g : GroupId) (x : Option (List Change)) (s : State) :
    (setGroup g x s).store = s.store := rfl
@[simp] theorem setGroup_link (g : GroupId) (x : Option (List Change)) (s : State) :
    (setGroup g x s).link = s.link := rfl
@[simp] theorem setGroup_choice (g : GroupId) (x : Option (List Change)) (s : State) :
    (setGroup g x s).choice = s.choice := rfl
@[simp] theorem setGroup_drawn (g : GroupId) (x : Option (List Change)) (s : State) :
    (setGroup g x s).drawn = s.drawn := rfl
@[simp] theorem setGroup_pending (g : GroupId) (x : Option (List Change)) (s : State) :
    (setGroup g x s).pending = s.pending := rfl

/-! ## setTrain -/

@[simp] theorem setTrain_power (t : Train) (r : TrainRec) (s : State) : (setTrain t r s).power = s.power := rfl
@[simp] theorem setTrain_resetIn (t : Train) (r : TrainRec) (s : State) : (setTrain t r s).resetIn = s.resetIn := rfl
@[simp] theorem setTrain_esdIn (t : Train) (r : TrainRec) (s : State) : (setTrain t r s).esdIn = s.esdIn := rfl
@[simp] theorem setTrain_permits (t : Train) (r : TrainRec) (s : State) : (setTrain t r s).permits = s.permits := rfl
@[simp] theorem setTrain_meas (t : Train) (r : TrainRec) (s : State) : (setTrain t r s).meas = s.meas := rfl
@[simp] theorem setTrain_heat (t : Train) (r : TrainRec) (s : State) : (setTrain t r s).heat = s.heat := rfl
@[simp] theorem setTrain_book (t : Train) (r : TrainRec) (s : State) : (setTrain t r s).book = s.book := rfl
@[simp] theorem setTrain_proj (t : Train) (r : TrainRec) (s : State) : (setTrain t r s).proj = s.proj := rfl
@[simp] theorem setTrain_clock (t : Train) (r : TrainRec) (s : State) : (setTrain t r s).clock = s.clock := rfl
@[simp] theorem setTrain_seq (t : Train) (r : TrainRec) (s : State) :
    (setTrain t r s).seq = { s.seq with trains := s.seq.trains.set t r } := rfl
@[simp] theorem setTrain_prot (t : Train) (r : TrainRec) (s : State) : (setTrain t r s).prot = s.prot := rfl
@[simp] theorem setTrain_mode (t : Train) (r : TrainRec) (s : State) : (setTrain t r s).mode = s.mode := rfl
@[simp] theorem setTrain_ws (t : Train) (r : TrainRec) (s : State) : (setTrain t r s).ws = s.ws := rfl
@[simp] theorem setTrain_store (t : Train) (r : TrainRec) (s : State) : (setTrain t r s).store = s.store := rfl
@[simp] theorem setTrain_link (t : Train) (r : TrainRec) (s : State) : (setTrain t r s).link = s.link := rfl
@[simp] theorem setTrain_choice (t : Train) (r : TrainRec) (s : State) : (setTrain t r s).choice = s.choice := rfl
@[simp] theorem setTrain_drawn (t : Train) (r : TrainRec) (s : State) : (setTrain t r s).drawn = s.drawn := rfl
@[simp] theorem setTrain_pending (t : Train) (r : TrainRec) (s : State) : (setTrain t r s).pending = s.pending := rfl

/-! ## setSide -/

@[simp] theorem setSide_power (sd : Side) (x : SeqSide) (s : State) : (setSide sd x s).power = s.power := rfl
@[simp] theorem setSide_resetIn (sd : Side) (x : SeqSide) (s : State) : (setSide sd x s).resetIn = s.resetIn := rfl
@[simp] theorem setSide_esdIn (sd : Side) (x : SeqSide) (s : State) : (setSide sd x s).esdIn = s.esdIn := rfl
@[simp] theorem setSide_permits (sd : Side) (x : SeqSide) (s : State) : (setSide sd x s).permits = s.permits := rfl
@[simp] theorem setSide_meas (sd : Side) (x : SeqSide) (s : State) : (setSide sd x s).meas = s.meas := rfl
@[simp] theorem setSide_heat (sd : Side) (x : SeqSide) (s : State) : (setSide sd x s).heat = s.heat := rfl
@[simp] theorem setSide_book (sd : Side) (x : SeqSide) (s : State) : (setSide sd x s).book = s.book := rfl
@[simp] theorem setSide_proj (sd : Side) (x : SeqSide) (s : State) : (setSide sd x s).proj = s.proj := rfl
@[simp] theorem setSide_clock (sd : Side) (x : SeqSide) (s : State) : (setSide sd x s).clock = s.clock := rfl
@[simp] theorem setSide_seq (sd : Side) (x : SeqSide) (s : State) :
    (setSide sd x s).seq = { s.seq with sides := s.seq.sides.set sd x } := rfl
@[simp] theorem setSide_prot (sd : Side) (x : SeqSide) (s : State) : (setSide sd x s).prot = s.prot := rfl
@[simp] theorem setSide_mode (sd : Side) (x : SeqSide) (s : State) : (setSide sd x s).mode = s.mode := rfl
@[simp] theorem setSide_ws (sd : Side) (x : SeqSide) (s : State) : (setSide sd x s).ws = s.ws := rfl
@[simp] theorem setSide_store (sd : Side) (x : SeqSide) (s : State) : (setSide sd x s).store = s.store := rfl
@[simp] theorem setSide_link (sd : Side) (x : SeqSide) (s : State) : (setSide sd x s).link = s.link := rfl
@[simp] theorem setSide_choice (sd : Side) (x : SeqSide) (s : State) : (setSide sd x s).choice = s.choice := rfl
@[simp] theorem setSide_drawn (sd : Side) (x : SeqSide) (s : State) : (setSide sd x s).drawn = s.drawn := rfl
@[simp] theorem setSide_pending (sd : Side) (x : SeqSide) (s : State) : (setSide sd x s).pending = s.pending := rfl

/-! ## emit -/

@[simp] theorem emit_power (c : TrainCmd) (s : State) : (emit c s).power = s.power := rfl
@[simp] theorem emit_resetIn (c : TrainCmd) (s : State) : (emit c s).resetIn = s.resetIn := rfl
@[simp] theorem emit_esdIn (c : TrainCmd) (s : State) : (emit c s).esdIn = s.esdIn := rfl
@[simp] theorem emit_permits (c : TrainCmd) (s : State) : (emit c s).permits = s.permits := rfl
@[simp] theorem emit_meas (c : TrainCmd) (s : State) : (emit c s).meas = s.meas := rfl
@[simp] theorem emit_heat (c : TrainCmd) (s : State) : (emit c s).heat = s.heat := rfl
@[simp] theorem emit_book (c : TrainCmd) (s : State) : (emit c s).book = s.book := rfl
@[simp] theorem emit_proj (c : TrainCmd) (s : State) : (emit c s).proj = s.proj := rfl
@[simp] theorem emit_clock (c : TrainCmd) (s : State) : (emit c s).clock = s.clock := rfl
@[simp] theorem emit_seq (c : TrainCmd) (s : State) :
    (emit c s).seq = { s.seq with outbox := s.seq.outbox ++ [c] } := rfl
@[simp] theorem emit_prot (c : TrainCmd) (s : State) : (emit c s).prot = s.prot := rfl
@[simp] theorem emit_mode (c : TrainCmd) (s : State) : (emit c s).mode = s.mode := rfl
@[simp] theorem emit_ws (c : TrainCmd) (s : State) : (emit c s).ws = s.ws := rfl
@[simp] theorem emit_store (c : TrainCmd) (s : State) : (emit c s).store = s.store := rfl
@[simp] theorem emit_link (c : TrainCmd) (s : State) : (emit c s).link = s.link := rfl
@[simp] theorem emit_choice (c : TrainCmd) (s : State) : (emit c s).choice = s.choice := rfl
@[simp] theorem emit_drawn (c : TrainCmd) (s : State) : (emit c s).drawn = s.drawn := rfl
@[simp] theorem emit_pending (c : TrainCmd) (s : State) : (emit c s).pending = s.pending := rfl

/-! ## setEntryRec -/

@[simp] theorem setEntryRec_power (e : ProtEntry) (r : EntryRec) (s : State) :
    (setEntryRec e r s).power = s.power := rfl
@[simp] theorem setEntryRec_resetIn (e : ProtEntry) (r : EntryRec) (s : State) :
    (setEntryRec e r s).resetIn = s.resetIn := rfl
@[simp] theorem setEntryRec_esdIn (e : ProtEntry) (r : EntryRec) (s : State) :
    (setEntryRec e r s).esdIn = s.esdIn := rfl
@[simp] theorem setEntryRec_permits (e : ProtEntry) (r : EntryRec) (s : State) :
    (setEntryRec e r s).permits = s.permits := rfl
@[simp] theorem setEntryRec_meas (e : ProtEntry) (r : EntryRec) (s : State) : (setEntryRec e r s).meas = s.meas := rfl
@[simp] theorem setEntryRec_heat (e : ProtEntry) (r : EntryRec) (s : State) : (setEntryRec e r s).heat = s.heat := rfl
@[simp] theorem setEntryRec_book (e : ProtEntry) (r : EntryRec) (s : State) : (setEntryRec e r s).book = s.book := rfl
@[simp] theorem setEntryRec_proj (e : ProtEntry) (r : EntryRec) (s : State) : (setEntryRec e r s).proj = s.proj := rfl
@[simp] theorem setEntryRec_clock (e : ProtEntry) (r : EntryRec) (s : State) :
    (setEntryRec e r s).clock = s.clock := rfl
@[simp] theorem setEntryRec_seq (e : ProtEntry) (r : EntryRec) (s : State) : (setEntryRec e r s).seq = s.seq := rfl
@[simp] theorem setEntryRec_prot (e : ProtEntry) (r : EntryRec) (s : State) :
    (setEntryRec e r s).prot = { s.prot with entries := s.prot.entries.set e r } := rfl
@[simp] theorem setEntryRec_mode (e : ProtEntry) (r : EntryRec) (s : State) : (setEntryRec e r s).mode = s.mode := rfl
@[simp] theorem setEntryRec_ws (e : ProtEntry) (r : EntryRec) (s : State) : (setEntryRec e r s).ws = s.ws := rfl
@[simp] theorem setEntryRec_store (e : ProtEntry) (r : EntryRec) (s : State) :
    (setEntryRec e r s).store = s.store := rfl
@[simp] theorem setEntryRec_link (e : ProtEntry) (r : EntryRec) (s : State) : (setEntryRec e r s).link = s.link := rfl
@[simp] theorem setEntryRec_choice (e : ProtEntry) (r : EntryRec) (s : State) :
    (setEntryRec e r s).choice = s.choice := rfl
@[simp] theorem setEntryRec_drawn (e : ProtEntry) (r : EntryRec) (s : State) :
    (setEntryRec e r s).drawn = s.drawn := rfl
@[simp] theorem setEntryRec_pending (e : ProtEntry) (r : EntryRec) (s : State) :
    (setEntryRec e r s).pending = s.pending := rfl

/-! ## setAlarms -/

@[simp] theorem setAlarms_power (w : Word16) (s : State) : (setAlarms w s).power = s.power := rfl
@[simp] theorem setAlarms_resetIn (w : Word16) (s : State) : (setAlarms w s).resetIn = s.resetIn := rfl
@[simp] theorem setAlarms_esdIn (w : Word16) (s : State) : (setAlarms w s).esdIn = s.esdIn := rfl
@[simp] theorem setAlarms_permits (w : Word16) (s : State) : (setAlarms w s).permits = s.permits := rfl
@[simp] theorem setAlarms_meas (w : Word16) (s : State) : (setAlarms w s).meas = s.meas := rfl
@[simp] theorem setAlarms_heat (w : Word16) (s : State) : (setAlarms w s).heat = s.heat := rfl
@[simp] theorem setAlarms_book (w : Word16) (s : State) : (setAlarms w s).book = s.book := rfl
@[simp] theorem setAlarms_proj (w : Word16) (s : State) : (setAlarms w s).proj = s.proj := rfl
@[simp] theorem setAlarms_clock (w : Word16) (s : State) : (setAlarms w s).clock = s.clock := rfl
@[simp] theorem setAlarms_seq (w : Word16) (s : State) : (setAlarms w s).seq = s.seq := rfl
@[simp] theorem setAlarms_prot (w : Word16) (s : State) : (setAlarms w s).prot = s.prot := rfl
@[simp] theorem setAlarms_mode (w : Word16) (s : State) : (setAlarms w s).mode = s.mode := rfl
@[simp] theorem setAlarms_ws (w : Word16) (s : State) : (setAlarms w s).ws = s.ws := rfl
@[simp] theorem setAlarms_store (w : Word16) (s : State) : (setAlarms w s).store = s.store := rfl
@[simp] theorem setAlarms_link (w : Word16) (s : State) :
    (setAlarms w s).link = { s.link with alarms := w, alertLow := alertLevel w s.link.mask } := rfl
@[simp] theorem setAlarms_choice (w : Word16) (s : State) : (setAlarms w s).choice = s.choice := rfl
@[simp] theorem setAlarms_drawn (w : Word16) (s : State) : (setAlarms w s).drawn = s.drawn := rfl
@[simp] theorem setAlarms_pending (w : Word16) (s : State) : (setAlarms w s).pending = s.pending := rfl

/-! ## setMask -/

@[simp] theorem setMask_power (w : Word16) (s : State) : (setMask w s).power = s.power := rfl
@[simp] theorem setMask_resetIn (w : Word16) (s : State) : (setMask w s).resetIn = s.resetIn := rfl
@[simp] theorem setMask_esdIn (w : Word16) (s : State) : (setMask w s).esdIn = s.esdIn := rfl
@[simp] theorem setMask_permits (w : Word16) (s : State) : (setMask w s).permits = s.permits := rfl
@[simp] theorem setMask_meas (w : Word16) (s : State) : (setMask w s).meas = s.meas := rfl
@[simp] theorem setMask_heat (w : Word16) (s : State) : (setMask w s).heat = s.heat := rfl
@[simp] theorem setMask_book (w : Word16) (s : State) : (setMask w s).book = s.book := rfl
@[simp] theorem setMask_proj (w : Word16) (s : State) : (setMask w s).proj = s.proj := rfl
@[simp] theorem setMask_clock (w : Word16) (s : State) : (setMask w s).clock = s.clock := rfl
@[simp] theorem setMask_seq (w : Word16) (s : State) : (setMask w s).seq = s.seq := rfl
@[simp] theorem setMask_prot (w : Word16) (s : State) : (setMask w s).prot = s.prot := rfl
@[simp] theorem setMask_mode (w : Word16) (s : State) : (setMask w s).mode = s.mode := rfl
@[simp] theorem setMask_ws (w : Word16) (s : State) : (setMask w s).ws = s.ws := rfl
@[simp] theorem setMask_store (w : Word16) (s : State) : (setMask w s).store = s.store := rfl
@[simp] theorem setMask_link (w : Word16) (s : State) :
    (setMask w s).link = { s.link with mask := w &&& alarmBits, alertLow := alertLevel s.link.alarms (w &&& alarmBits) } := rfl
@[simp] theorem setMask_choice (w : Word16) (s : State) : (setMask w s).choice = s.choice := rfl
@[simp] theorem setMask_drawn (w : Word16) (s : State) : (setMask w s).drawn = s.drawn := rfl
@[simp] theorem setMask_pending (w : Word16) (s : State) : (setMask w s).pending = s.pending := rfl

/-! ## raiseAlarm -/

@[simp] theorem raiseAlarm_power (a : Alarm) (s : State) : (raiseAlarm a s).power = s.power := rfl
@[simp] theorem raiseAlarm_resetIn (a : Alarm) (s : State) : (raiseAlarm a s).resetIn = s.resetIn := rfl
@[simp] theorem raiseAlarm_esdIn (a : Alarm) (s : State) : (raiseAlarm a s).esdIn = s.esdIn := rfl
@[simp] theorem raiseAlarm_permits (a : Alarm) (s : State) : (raiseAlarm a s).permits = s.permits := rfl
@[simp] theorem raiseAlarm_meas (a : Alarm) (s : State) : (raiseAlarm a s).meas = s.meas := rfl
@[simp] theorem raiseAlarm_heat (a : Alarm) (s : State) : (raiseAlarm a s).heat = s.heat := rfl
@[simp] theorem raiseAlarm_book (a : Alarm) (s : State) : (raiseAlarm a s).book = s.book := rfl
@[simp] theorem raiseAlarm_proj (a : Alarm) (s : State) : (raiseAlarm a s).proj = s.proj := rfl
@[simp] theorem raiseAlarm_clock (a : Alarm) (s : State) : (raiseAlarm a s).clock = s.clock := rfl
@[simp] theorem raiseAlarm_seq (a : Alarm) (s : State) : (raiseAlarm a s).seq = s.seq := rfl
@[simp] theorem raiseAlarm_prot (a : Alarm) (s : State) : (raiseAlarm a s).prot = s.prot := rfl
@[simp] theorem raiseAlarm_mode (a : Alarm) (s : State) : (raiseAlarm a s).mode = s.mode := rfl
@[simp] theorem raiseAlarm_ws (a : Alarm) (s : State) : (raiseAlarm a s).ws = s.ws := rfl
@[simp] theorem raiseAlarm_store (a : Alarm) (s : State) : (raiseAlarm a s).store = s.store := rfl
@[simp] theorem raiseAlarm_link (a : Alarm) (s : State) :
    (raiseAlarm a s).link = { s.link with alarms := s.link.alarms ||| a.word, alertLow := alertLevel (s.link.alarms ||| a.word) s.link.mask } := rfl
@[simp] theorem raiseAlarm_choice (a : Alarm) (s : State) : (raiseAlarm a s).choice = s.choice := rfl
@[simp] theorem raiseAlarm_drawn (a : Alarm) (s : State) : (raiseAlarm a s).drawn = s.drawn := rfl
@[simp] theorem raiseAlarm_pending (a : Alarm) (s : State) : (raiseAlarm a s).pending = s.pending := rfl

/-! ## setCounters -/

@[simp] theorem setCounters_power (l : Link) (c : LinkCounters) (s : State) :
    (setCounters l c s).power = s.power := rfl
@[simp] theorem setCounters_resetIn (l : Link) (c : LinkCounters) (s : State) :
    (setCounters l c s).resetIn = s.resetIn := rfl
@[simp] theorem setCounters_esdIn (l : Link) (c : LinkCounters) (s : State) :
    (setCounters l c s).esdIn = s.esdIn := rfl
@[simp] theorem setCounters_permits (l : Link) (c : LinkCounters) (s : State) :
    (setCounters l c s).permits = s.permits := rfl
@[simp] theorem setCounters_meas (l : Link) (c : LinkCounters) (s : State) : (setCounters l c s).meas = s.meas := rfl
@[simp] theorem setCounters_heat (l : Link) (c : LinkCounters) (s : State) : (setCounters l c s).heat = s.heat := rfl
@[simp] theorem setCounters_book (l : Link) (c : LinkCounters) (s : State) : (setCounters l c s).book = s.book := rfl
@[simp] theorem setCounters_proj (l : Link) (c : LinkCounters) (s : State) : (setCounters l c s).proj = s.proj := rfl
@[simp] theorem setCounters_clock (l : Link) (c : LinkCounters) (s : State) :
    (setCounters l c s).clock = s.clock := rfl
@[simp] theorem setCounters_seq (l : Link) (c : LinkCounters) (s : State) : (setCounters l c s).seq = s.seq := rfl
@[simp] theorem setCounters_prot (l : Link) (c : LinkCounters) (s : State) : (setCounters l c s).prot = s.prot := rfl
@[simp] theorem setCounters_mode (l : Link) (c : LinkCounters) (s : State) : (setCounters l c s).mode = s.mode := rfl
@[simp] theorem setCounters_ws (l : Link) (c : LinkCounters) (s : State) : (setCounters l c s).ws = s.ws := rfl
@[simp] theorem setCounters_store (l : Link) (c : LinkCounters) (s : State) :
    (setCounters l c s).store = s.store := rfl
@[simp] theorem setCounters_link (l : Link) (c : LinkCounters) (s : State) :
    (setCounters l c s).link = { s.link with counters := s.link.counters.set l c } := rfl
@[simp] theorem setCounters_choice (l : Link) (c : LinkCounters) (s : State) :
    (setCounters l c s).choice = s.choice := rfl
@[simp] theorem setCounters_drawn (l : Link) (c : LinkCounters) (s : State) :
    (setCounters l c s).drawn = s.drawn := rfl
@[simp] theorem setCounters_pending (l : Link) (c : LinkCounters) (s : State) :
    (setCounters l c s).pending = s.pending := rfl

/-! ## setRx -/

@[simp] theorem setRx_power (l : Link) (r : Receiver) (s : State) : (setRx l r s).power = s.power := rfl
@[simp] theorem setRx_resetIn (l : Link) (r : Receiver) (s : State) : (setRx l r s).resetIn = s.resetIn := rfl
@[simp] theorem setRx_esdIn (l : Link) (r : Receiver) (s : State) : (setRx l r s).esdIn = s.esdIn := rfl
@[simp] theorem setRx_permits (l : Link) (r : Receiver) (s : State) : (setRx l r s).permits = s.permits := rfl
@[simp] theorem setRx_meas (l : Link) (r : Receiver) (s : State) : (setRx l r s).meas = s.meas := rfl
@[simp] theorem setRx_heat (l : Link) (r : Receiver) (s : State) : (setRx l r s).heat = s.heat := rfl
@[simp] theorem setRx_book (l : Link) (r : Receiver) (s : State) : (setRx l r s).book = s.book := rfl
@[simp] theorem setRx_proj (l : Link) (r : Receiver) (s : State) : (setRx l r s).proj = s.proj := rfl
@[simp] theorem setRx_clock (l : Link) (r : Receiver) (s : State) : (setRx l r s).clock = s.clock := rfl
@[simp] theorem setRx_seq (l : Link) (r : Receiver) (s : State) : (setRx l r s).seq = s.seq := rfl
@[simp] theorem setRx_prot (l : Link) (r : Receiver) (s : State) : (setRx l r s).prot = s.prot := rfl
@[simp] theorem setRx_mode (l : Link) (r : Receiver) (s : State) : (setRx l r s).mode = s.mode := rfl
@[simp] theorem setRx_ws (l : Link) (r : Receiver) (s : State) : (setRx l r s).ws = s.ws := rfl
@[simp] theorem setRx_store (l : Link) (r : Receiver) (s : State) : (setRx l r s).store = s.store := rfl
@[simp] theorem setRx_link (l : Link) (r : Receiver) (s : State) :
    (setRx l r s).link = { s.link with rx := s.link.rx.set l r } := rfl
@[simp] theorem setRx_choice (l : Link) (r : Receiver) (s : State) : (setRx l r s).choice = s.choice := rfl
@[simp] theorem setRx_drawn (l : Link) (r : Receiver) (s : State) : (setRx l r s).drawn = s.drawn := rfl
@[simp] theorem setRx_pending (l : Link) (r : Receiver) (s : State) : (setRx l r s).pending = s.pending := rfl

/-! ## setQueue -/

@[simp] theorem setQueue_power (l : Link) (q : List Frame) (s : State) : (setQueue l q s).power = s.power := rfl
@[simp] theorem setQueue_resetIn (l : Link) (q : List Frame) (s : State) : (setQueue l q s).resetIn = s.resetIn := rfl
@[simp] theorem setQueue_esdIn (l : Link) (q : List Frame) (s : State) : (setQueue l q s).esdIn = s.esdIn := rfl
@[simp] theorem setQueue_permits (l : Link) (q : List Frame) (s : State) : (setQueue l q s).permits = s.permits := rfl
@[simp] theorem setQueue_meas (l : Link) (q : List Frame) (s : State) : (setQueue l q s).meas = s.meas := rfl
@[simp] theorem setQueue_heat (l : Link) (q : List Frame) (s : State) : (setQueue l q s).heat = s.heat := rfl
@[simp] theorem setQueue_book (l : Link) (q : List Frame) (s : State) : (setQueue l q s).book = s.book := rfl
@[simp] theorem setQueue_proj (l : Link) (q : List Frame) (s : State) : (setQueue l q s).proj = s.proj := rfl
@[simp] theorem setQueue_clock (l : Link) (q : List Frame) (s : State) : (setQueue l q s).clock = s.clock := rfl
@[simp] theorem setQueue_seq (l : Link) (q : List Frame) (s : State) : (setQueue l q s).seq = s.seq := rfl
@[simp] theorem setQueue_prot (l : Link) (q : List Frame) (s : State) : (setQueue l q s).prot = s.prot := rfl
@[simp] theorem setQueue_mode (l : Link) (q : List Frame) (s : State) : (setQueue l q s).mode = s.mode := rfl
@[simp] theorem setQueue_ws (l : Link) (q : List Frame) (s : State) : (setQueue l q s).ws = s.ws := rfl
@[simp] theorem setQueue_store (l : Link) (q : List Frame) (s : State) : (setQueue l q s).store = s.store := rfl
@[simp] theorem setQueue_link (l : Link) (q : List Frame) (s : State) :
    (setQueue l q s).link = { s.link with queue := s.link.queue.set l q } := rfl
@[simp] theorem setQueue_choice (l : Link) (q : List Frame) (s : State) : (setQueue l q s).choice = s.choice := rfl
@[simp] theorem setQueue_drawn (l : Link) (q : List Frame) (s : State) : (setQueue l q s).drawn = s.drawn := rfl
@[simp] theorem setQueue_pending (l : Link) (q : List Frame) (s : State) : (setQueue l q s).pending = s.pending := rfl

/-! ## sendField -/

@[simp] theorem sendField_power (k : Byte) (b : List Byte) (s : State) : (sendField k b s).power = s.power := rfl
@[simp] theorem sendField_resetIn (k : Byte) (b : List Byte) (s : State) :
    (sendField k b s).resetIn = s.resetIn := rfl
@[simp] theorem sendField_esdIn (k : Byte) (b : List Byte) (s : State) : (sendField k b s).esdIn = s.esdIn := rfl
@[simp] theorem sendField_permits (k : Byte) (b : List Byte) (s : State) :
    (sendField k b s).permits = s.permits := rfl
@[simp] theorem sendField_meas (k : Byte) (b : List Byte) (s : State) : (sendField k b s).meas = s.meas := rfl
@[simp] theorem sendField_heat (k : Byte) (b : List Byte) (s : State) : (sendField k b s).heat = s.heat := rfl
@[simp] theorem sendField_book (k : Byte) (b : List Byte) (s : State) : (sendField k b s).book = s.book := rfl
@[simp] theorem sendField_proj (k : Byte) (b : List Byte) (s : State) : (sendField k b s).proj = s.proj := rfl
@[simp] theorem sendField_clock (k : Byte) (b : List Byte) (s : State) : (sendField k b s).clock = s.clock := rfl
@[simp] theorem sendField_seq (k : Byte) (b : List Byte) (s : State) : (sendField k b s).seq = s.seq := rfl
@[simp] theorem sendField_prot (k : Byte) (b : List Byte) (s : State) : (sendField k b s).prot = s.prot := rfl
@[simp] theorem sendField_mode (k : Byte) (b : List Byte) (s : State) : (sendField k b s).mode = s.mode := rfl
@[simp] theorem sendField_ws (k : Byte) (b : List Byte) (s : State) : (sendField k b s).ws = s.ws := rfl
@[simp] theorem sendField_store (k : Byte) (b : List Byte) (s : State) : (sendField k b s).store = s.store := rfl
@[simp] theorem sendField_link (k : Byte) (b : List Byte) (s : State) :
    (sendField k b s).link = { s.link with fieldTx := s.link.fieldTx ++ [⟨k, s.link.txTag, b⟩], txTag := s.link.txTag + 1 } := rfl
@[simp] theorem sendField_choice (k : Byte) (b : List Byte) (s : State) : (sendField k b s).choice = s.choice := rfl
@[simp] theorem sendField_drawn (k : Byte) (b : List Byte) (s : State) : (sendField k b s).drawn = s.drawn := rfl
@[simp] theorem sendField_pending (k : Byte) (b : List Byte) (s : State) :
    (sendField k b s).pending = s.pending := rfl

/-! ## setMode -/

@[simp] theorem setMode_power (m : Mode) (s : State) : (setMode m s).power = s.power := rfl
@[simp] theorem setMode_resetIn (m : Mode) (s : State) : (setMode m s).resetIn = s.resetIn := rfl
@[simp] theorem setMode_esdIn (m : Mode) (s : State) : (setMode m s).esdIn = s.esdIn := rfl
@[simp] theorem setMode_permits (m : Mode) (s : State) : (setMode m s).permits = s.permits := rfl
@[simp] theorem setMode_meas (m : Mode) (s : State) : (setMode m s).meas = s.meas := rfl
@[simp] theorem setMode_heat (m : Mode) (s : State) : (setMode m s).heat = s.heat := rfl
@[simp] theorem setMode_book (m : Mode) (s : State) : (setMode m s).book = s.book := rfl
@[simp] theorem setMode_proj (m : Mode) (s : State) : (setMode m s).proj = s.proj := rfl
@[simp] theorem setMode_clock (m : Mode) (s : State) : (setMode m s).clock = s.clock := rfl
@[simp] theorem setMode_seq (m : Mode) (s : State) : (setMode m s).seq = s.seq := rfl
@[simp] theorem setMode_prot (m : Mode) (s : State) : (setMode m s).prot = s.prot := rfl
@[simp] theorem setMode_mode (m : Mode) (s : State) : (setMode m s).mode = m := rfl
@[simp] theorem setMode_ws (m : Mode) (s : State) : (setMode m s).ws = s.ws := rfl
@[simp] theorem setMode_store (m : Mode) (s : State) : (setMode m s).store = s.store := rfl
@[simp] theorem setMode_link (m : Mode) (s : State) : (setMode m s).link = s.link := rfl
@[simp] theorem setMode_choice (m : Mode) (s : State) : (setMode m s).choice = s.choice := rfl
@[simp] theorem setMode_drawn (m : Mode) (s : State) : (setMode m s).drawn = s.drawn := rfl
@[simp] theorem setMode_pending (m : Mode) (s : State) : (setMode m s).pending = s.pending := rfl

/-! ## writeSet -/

@[simp] theorem writeSet_power (w : WorkingSet) (s : State) : (writeSet w s).power = s.power := rfl
@[simp] theorem writeSet_resetIn (w : WorkingSet) (s : State) : (writeSet w s).resetIn = s.resetIn := rfl
@[simp] theorem writeSet_esdIn (w : WorkingSet) (s : State) : (writeSet w s).esdIn = s.esdIn := rfl
@[simp] theorem writeSet_permits (w : WorkingSet) (s : State) : (writeSet w s).permits = s.permits := rfl
@[simp] theorem writeSet_meas (w : WorkingSet) (s : State) : (writeSet w s).meas = s.meas := rfl
@[simp] theorem writeSet_heat (w : WorkingSet) (s : State) : (writeSet w s).heat = s.heat := rfl
@[simp] theorem writeSet_book (w : WorkingSet) (s : State) : (writeSet w s).book = s.book := rfl
@[simp] theorem writeSet_proj (w : WorkingSet) (s : State) : (writeSet w s).proj = s.proj := rfl
@[simp] theorem writeSet_clock (w : WorkingSet) (s : State) : (writeSet w s).clock = s.clock := rfl
@[simp] theorem writeSet_seq (w : WorkingSet) (s : State) : (writeSet w s).seq = s.seq := rfl
@[simp] theorem writeSet_prot (w : WorkingSet) (s : State) : (writeSet w s).prot = s.prot := rfl
@[simp] theorem writeSet_mode (w : WorkingSet) (s : State) : (writeSet w s).mode = s.mode := rfl
@[simp] theorem writeSet_ws (w : WorkingSet) (s : State) : (writeSet w s).ws = w := rfl
@[simp] theorem writeSet_store (w : WorkingSet) (s : State) :
    (writeSet w s).store = { s.store with unsaved := true } := rfl
@[simp] theorem writeSet_link (w : WorkingSet) (s : State) : (writeSet w s).link = s.link := rfl
@[simp] theorem writeSet_choice (w : WorkingSet) (s : State) : (writeSet w s).choice = s.choice := rfl
@[simp] theorem writeSet_drawn (w : WorkingSet) (s : State) : (writeSet w s).drawn = s.drawn := rfl
@[simp] theorem writeSet_pending (w : WorkingSet) (s : State) : (writeSet w s).pending = s.pending := rfl

/-! ## drawChoice -/

@[simp] theorem drawChoice_power (s : State) : (drawChoice s).power = s.power := rfl
@[simp] theorem drawChoice_resetIn (s : State) : (drawChoice s).resetIn = s.resetIn := rfl
@[simp] theorem drawChoice_esdIn (s : State) : (drawChoice s).esdIn = s.esdIn := rfl
@[simp] theorem drawChoice_permits (s : State) : (drawChoice s).permits = s.permits := rfl
@[simp] theorem drawChoice_meas (s : State) : (drawChoice s).meas = s.meas := rfl
@[simp] theorem drawChoice_heat (s : State) : (drawChoice s).heat = s.heat := rfl
@[simp] theorem drawChoice_book (s : State) : (drawChoice s).book = s.book := rfl
@[simp] theorem drawChoice_proj (s : State) : (drawChoice s).proj = s.proj := rfl
@[simp] theorem drawChoice_clock (s : State) : (drawChoice s).clock = s.clock := rfl
@[simp] theorem drawChoice_seq (s : State) : (drawChoice s).seq = s.seq := rfl
@[simp] theorem drawChoice_prot (s : State) : (drawChoice s).prot = s.prot := rfl
@[simp] theorem drawChoice_mode (s : State) : (drawChoice s).mode = s.mode := rfl
@[simp] theorem drawChoice_ws (s : State) : (drawChoice s).ws = s.ws := rfl
@[simp] theorem drawChoice_store (s : State) : (drawChoice s).store = s.store := rfl
@[simp] theorem drawChoice_link (s : State) : (drawChoice s).link = s.link := rfl
@[simp] theorem drawChoice_choice (s : State) : (drawChoice s).choice = Config.freeOrder (s.drawn + 1) := rfl
@[simp] theorem drawChoice_drawn (s : State) : (drawChoice s).drawn = s.drawn + 1 := rfl
@[simp] theorem drawChoice_pending (s : State) : (drawChoice s).pending = s.pending := rfl

end Sys2Proof.Machine
end

