-- ==== Sys2Proof/Laws/Frames.lean ====
section
/-! SUPPORT. What each shared operation leaves: the outer part for the heat store unit, the projection engine, the dispatch
clock and the train sequencer, the far part for the protection unit. A later proof cites these and unfolds no operation. -/
namespace Sys2Proof.Machine

/-- The far part is a part of the outer part. -/
theorem far_of_outer {s t : State} (h : outerPart t = outerPart s) : farPart t = farPart s := by
  simp only [outerPart, Prod.mk.injEq] at h
  simp only [farPart, h]

/-! ## Alarms, transmitters, free orders -/

@[simp] theorem outer_raiseAlarm (a : Alarm) (s : State) : outerPart (raiseAlarm a s) = outerPart s := rfl

@[simp] theorem outer_raiseIf (c : Bool) (a : Alarm) (s : State) : outerPart (raiseIf c a s) = outerPart s := by
  cases c <;> rfl

@[simp] theorem outer_sendField (k : Byte) (b : List Byte) (s : State) : outerPart (sendField k b s) = outerPart s := rfl

@[simp] theorem outer_drawChoice (s : State) : outerPart (drawChoice s) = outerPart s := rfl

/-! ## The projection engine -/

@[simp] theorem outer_startRun (s : State) : outerPart (startRun s) = outerPart s := rfl

@[simp] theorem outer_requestRun (s : State) : outerPart (requestRun s) = outerPart s := by
  unfold requestRun
  split
  · rfl
  · split <;> rfl

@[simp] theorem outer_requestRuns {α : Type} (l : List α) (s : State) : outerPart (requestRuns l s) = outerPart s := by
  induction l generalizing s with
  | nil => rfl
  | cons _ l ih => simp [requestRuns, ih]

@[simp] theorem outer_publishRun (r : RunInFlight) (s : State) : outerPart (publishRun r s) = outerPart s := by
  unfold publishRun
  simp only [outer_raiseIf]
  rfl

@[simp] theorem outer_rerunIfFlagged (s : State) : outerPart (rerunIfFlagged s) = outerPart s := by
  unfold rerunIfFlagged
  split
  · simp only [outer_startRun]; rfl
  · rfl

/-! ## The heat store unit -/

@[simp] theorem outer_setModule (m : HeatModule) (r : ModuleRec) (s : State) : outerPart (setModule m r s) = outerPart s := rfl

@[simp] theorem outer_sendValve (m : HeatModule) (s : State) : outerPart (sendValve m s) = outerPart s := by
  unfold sendValve
  dsimp only
  split <;> simp

@[simp] theorem outer_sendValves (s : State) : outerPart (sendValves s) = outerPart s := by
  simp [sendValves, HeatModule.all]

@[simp] theorem outer_formNoHeatSink (s : State) : outerPart (formNoHeatSink s) = outerPart s := rfl

@[simp] theorem outer_formSets (s : State) : outerPart (formSets s) = outerPart s := rfl

@[simp] theorem outer_roleEvaluation (s : State) : outerPart (roleEvaluation s) = outerPart s := by
  simp [roleEvaluation]

@[simp] theorem outer_takeTrainStates (s : State) : outerPart (takeTrainStates s) = outerPart s := by
  unfold takeTrainStates
  dsimp only
  split
  · rfl
  · simp only [outer_roleEvaluation]; rfl

@[simp] theorem outer_integrateScan (n : Int) (s : State) : outerPart (integrateScan n s) = outerPart s := by
  unfold integrateScan
  dsimp only
  split <;> simp only [outer_roleEvaluation, outer_raiseIf] <;> rfl

@[simp] theorem outer_balanceLoop (b : PerSide ModuleSet) (sd : Side) (s : State) :
    outerPart (balanceLoop b sd s) = outerPart s := by
  unfold balanceLoop
  dsimp only
  split
  · rfl
  · split <;> rfl

@[simp] theorem outer_balanceUpdate (s : State) : outerPart (balanceUpdate s) = outerPart s := by simp [balanceUpdate]

@[simp] theorem outer_balanceDue (s : State) : outerPart (balanceDue s) = outerPart s := by
  simp only [balanceDue, outer_balanceUpdate]; rfl

@[simp] theorem outer_countBalance (s : State) : outerPart (countBalance s) = outerPart s := by
  unfold countBalance
  split
  · simp
  · rfl

@[simp] theorem outer_handSink (s : State) : outerPart (handSink s) = outerPart s := rfl

@[simp] theorem outer_heatTakesScan (n : Int) (s : State) : outerPart (heatTakesScan n s) = outerPart s := by
  simp [heatTakesScan]

@[simp] theorem outer_isolateModule (m : HeatModule) (s : State) : outerPart (isolateModule m s) = outerPart s := by
  unfold isolateModule
  dsimp only
  split <;> simp

@[simp] theorem outer_releaseModule (m : HeatModule) (s : State) : outerPart (releaseModule m s) = outerPart s := by
  unfold releaseModule
  dsimp only
  split <;> simp

/-! ## The train sequencer -/

@[simp] theorem outer_setTrain (t : Train) (r : TrainRec) (s : State) : outerPart (setTrain t r s) = outerPart s := rfl

@[simp] theorem outer_setSide (sd : Side) (x : SeqSide) (s : State) : outerPart (setSide sd x s) = outerPart s := rfl

@[simp] theorem outer_setPending (sd : Side) (b : Bool) (s : State) : outerPart (setPending sd b s) = outerPart s := rfl

@[simp] theorem outer_emit (c : TrainCmd) (s : State) : outerPart (emit c s) = outerPart s := rfl

@[simp] theorem outer_sendCommand (c : TrainCmd) (s : State) : outerPart (sendCommand c s) = outerPart s := rfl

/-- Handing a list of commands to the field transmitter leaves the outer part. -/
theorem outer_sendCommands (cs : List TrainCmd) (s : State) :
    outerPart (cs.foldl (fun s c => sendCommand c s) s) = outerPart s := by
  induction cs generalizing s with
  | nil => rfl
  | cons c cs ih => simp [ih]

@[simp] theorem outer_flush (s : State) : outerPart (flush s) = outerPart s :=
  (outer_sendCommands (commandOrder s.seq.outbox) s)

@[simp] theorem outer_enterState (t : Train) (st : TrainState) (s : State) : outerPart (enterState t st s) = outerPart s := by
  unfold enterState
  dsimp only
  split <;> simp

@[simp] theorem outer_startTrain (t : Train) (s : State) : outerPart (startTrain t s) = outerPart s := by simp [startTrain]

@[simp] theorem outer_stopTrain (t : Train) (s : State) : outerPart (stopTrain t s) = outerPart s := by simp [stopTrain]

@[simp] theorem outer_enterTripped (t : Train) (c : TripCause) (s : State) :
    outerPart (enterTripped t c s) = outerPart s := by simp [enterTripped]

@[simp] theorem outer_setRecord (r : PerSide DispatchRec) (s : State) : outerPart (setRecord r s) = outerPart s := rfl

@[simp] theorem outer_setClock (c : ClockState) (s : State) : outerPart (setClock c s) = outerPart s := rfl

@[simp] theorem outer_reportDelivered (sd : Side) (s : State) : outerPart (reportDelivered sd s) = outerPart s := rfl

@[simp] theorem outer_startWinner (sd : Side) (ph : Fin 16) (t : Train) (s : State) :
    outerPart (startWinner sd ph t s) = outerPart s := by simp [startWinner]

@[simp] theorem outer_stopAll (l : List Train) (s : State) : outerPart (stopAll l s) = outerPart s := by
  induction l generalizing s with
  | nil => rfl
  | cons t l ih => simp [stopAll, ih]

@[simp] theorem outer_floorStop (sd : Side) (n : Nat) (s : State) : outerPart (floorStop sd n s) = outerPart s := by
  induction n generalizing s with
  | zero => rfl
  | succ n ih =>
    simp only [floorStop]
    split
    · split
      · simp [ih]
      · rfl
    · rfl

@[simp] theorem outer_cancelPending (sd : Side) (s : State) : outerPart (cancelPending sd s) = outerPart s := by
  unfold cancelPending
  split <;> simp

@[simp] theorem outer_askStarts (sd : Side) (n : Nat) (s : State) : outerPart (askStarts sd n s) = outerPart s := by
  induction n generalizing s with
  | zero => rfl
  | succ n ih =>
    simp only [askStarts]
    split
    · split
      · simp [ih]
      · simp
    · rfl

@[simp] theorem outer_commandLoad (fresh : List Train) (t : Train) (x : Int) (s : State) :
    outerPart (commandLoad fresh t x s) = outerPart s := by
  unfold commandLoad
  dsimp only
  split <;> simp

/-- Loads commanded one after another leave the outer part. -/
theorem outer_commandLoads (fresh : List Train) (f : Train → Int) (l : List Train) (s : State) :
    outerPart (l.foldl (fun s' t => commandLoad fresh t (f t) s') s) = outerPart s := by
  induction l generalizing s with
  | nil => rfl
  | cons t l ih => simp [ih]

@[simp] theorem outer_shareSide (fresh : List Train) (sd : Side) (s : State) :
    outerPart (shareSide fresh sd s) = outerPart s := outer_commandLoads _ _ _ _

@[simp] theorem outer_allocate (sd : Side) (s : State) : outerPart (allocate sd s) = outerPart s := by
  unfold allocate
  split <;> simp

@[simp] theorem outer_evaluateFresh (fresh : List Train) (sd : Side) (s : State) :
    outerPart (evaluateFresh fresh sd s) = outerPart s := by
  unfold evaluateFresh
  split <;> simp

@[simp] theorem outer_evaluateSide (sd : Side) (s : State) : outerPart (evaluateSide sd s) = outerPart s := by
  simp [evaluateSide]

theorem outer_retried {fresh : List Train} {sd : Side} {s t : State} (h : retried fresh sd s = some t) :
    outerPart t = outerPart s := by
  unfold retried at h
  split at h
  · split at h
    · cases h
      simp
    · cases h
  · cases h

@[simp] theorem outer_retryPending (sd : Side) (s : State) : outerPart (retryPending sd s) = outerPart s := by
  unfold retryPending
  cases h : retried [] sd s with
  | none => rfl
  | some t => exact outer_retried h

@[simp] theorem outer_afterChange (sd : Side) (s : State) : outerPart (afterChange sd s) = outerPart s := by
  simp [afterChange]

@[simp] theorem outer_takeTargets (eff : PerSide Int) (s : State) : outerPart (takeTargets eff s) = outerPart s := by
  simp [takeTargets]

@[simp] theorem outer_confirmTrains (l : List Train) (s : State) : outerPart (confirmTrains l s) = outerPart s := by
  induction l generalizing s with
  | nil => rfl
  | cons t l ih =>
    simp only [confirmTrains]
    split <;> simp [ih]

@[simp] theorem outer_workWindow (t : Train) (s : State) : outerPart (workWindow t s) = outerPart s := by
  unfold workWindow
  split <;> simp

@[simp] theorem outer_workWindows (l : List Train) (s : State) : outerPart (workWindows l s) = outerPart s := by
  induction l generalizing s with
  | nil => rfl
  | cons t l ih => simp [workWindows, ih]

@[simp] theorem outer_finishPublication (a b : PerTrain TrainRec) (sd : Side) (s : State) :
    outerPart (finishPublication a b sd s) = outerPart s := by
  unfold finishPublication
  dsimp only
  split
  · split <;> simp [outer_retried ‹_›]
  · split <;> simp

@[simp] theorem outer_seqTakesScan (s : State) : outerPart (seqTakesScan s) = outerPart s := by simp [seqTakesScan]

@[simp] theorem outer_windowExit (t : Train) (s : State) : outerPart (windowExit t s) = outerPart s := by simp [windowExit]

@[simp] theorem outer_startTimesOut (t : Train) (s : State) : outerPart (startTimesOut t s) = outerPart s := by
  simp [startTimesOut]

@[simp] theorem outer_stopTimesOut (t : Train) (s : State) : outerPart (stopTimesOut t s) = outerPart s := by
  simp [stopTimesOut]

@[simp] theorem outer_cools (t : Train) (s : State) : outerPart (cools t s) = outerPart s := by simp [cools]

@[simp] theorem outer_workLimit (t : Train) (s : State) : outerPart (workLimit t s) = outerPart s := by
  unfold workLimit
  dsimp only
  split
  · split <;> simp
  · rfl

@[simp] theorem outer_workLimits (l : List Train) (s : State) : outerPart (workLimits l s) = outerPart s := by
  induction l generalizing s with
  | nil => rfl
  | cons t l ih => simp [workLimits, ih]

@[simp] theorem outer_countTimers (s : State) : outerPart (countTimers s) = outerPart s := rfl

@[simp] theorem outer_afterChanges (a b : PerTrain TrainRec) (sd : Side) (s : State) :
    outerPart (afterChanges a b sd s) = outerPart s := by
  unfold afterChanges
  split <;> simp

@[simp] theorem outer_stopNewestTrain (sd : Side) (s : State) : outerPart (stopNewestTrain sd s) = outerPart s := by
  unfold stopNewestTrain
  split <;> simp

@[simp] theorem outer_workStopTest (sd : Side) (s : State) : outerPart (workStopTest sd s) = outerPart s := by
  unfold workStopTest
  dsimp only
  split
  · rfl
  · split <;> simp

@[simp] theorem outer_seqTakesMark (s : State) : outerPart (seqTakesMark s) = outerPart s := by simp [seqTakesMark]

@[simp] theorem outer_tripRequest (t : Train) (b : Bool) (s : State) : outerPart (tripRequest t b s) = outerPart s := by
  unfold tripRequest
  dsimp only
  split <;> simp

@[simp] theorem outer_seqSidePermit (sd : Side) (b : Bool) (s : State) : outerPart (seqSidePermit sd b s) = outerPart s := by
  unfold seqSidePermit
  dsimp only
  split
  · split <;> simp
  · simp

@[simp] theorem outer_seqTakesPermits (p : PerSide Bool) (s : State) : outerPart (seqTakesPermits p s) = outerPart s := by
  simp [seqTakesPermits]

@[simp] theorem outer_clearHeldOut (s : State) : outerPart (clearHeldOut s) = outerPart s := rfl

@[simp] theorem outer_retryReleased (b : State) (sd : Side) (s : State) : outerPart (retryReleased b sd s) = outerPart s := by
  unfold retryReleased
  split <;> simp

@[simp] theorem outer_seqTakesBoundary (s : State) : outerPart (seqTakesBoundary s) = outerPart s := by
  simp [seqTakesBoundary]

@[simp] theorem outer_seqModeChange (s : State) : outerPart (seqModeChange s) = outerPart s := rfl

@[simp] theorem outer_seqEntersSetup (s : State) : outerPart (seqEntersSetup s) = outerPart s := by simp [seqEntersSetup]

/-! ## The dispatch clock -/

@[simp] theorem outer_recordTargets (eff : PerSide Int) (s : State) : outerPart (recordTargets eff s) = outerPart s := rfl

@[simp] theorem outer_formTargets (b : Bool) (s : State) : outerPart (formTargets b s) = outerPart s := by
  unfold formTargets
  dsimp only
  split <;> simp

@[simp] theorem outer_fillByPolicy (s : State) : outerPart (fillByPolicy s) = outerPart s := by simp [fillByPolicy]

@[simp] theorem outer_removeStaged (s : State) : outerPart (removeStaged s) = outerPart s := rfl

@[simp] theorem outer_fillStaging (s : State) : outerPart (fillStaging s) = outerPart s := by
  unfold fillStaging
  split <;> simp

@[simp] theorem outer_advanceInterval (s : State) : outerPart (advanceInterval s) = outerPart s := rfl

@[simp] theorem outer_turnOver (s : State) : outerPart (turnOver s) = outerPart s := rfl

@[simp] theorem outer_settle (s : State) : outerPart (settle s) = outerPart s := rfl

@[simp] theorem outer_boundaryInForce (s : State) : outerPart (boundaryInForce s) = outerPart s := by
  simp [boundaryInForce]

@[simp] theorem outer_boundary (s : State) : outerPart (boundary s) = outerPart s := by
  unfold boundary
  split <;> simp

@[simp] theorem outer_setCount (sd : Side) (n : Nat) (s : State) : outerPart (setCount sd n s) = outerPart s := rfl

@[simp] theorem outer_undelivered (sd : Side) (s : State) : outerPart (undelivered sd s) = outerPart s := by
  simp [undelivered]

@[simp] theorem outer_countShortfall (sd : Side) (s : State) : outerPart (countShortfall sd s) = outerPart s := by
  unfold countShortfall
  split
  · rfl
  · split <;> simp

@[simp] theorem outer_countMark (s : State) : outerPart (countMark s) = outerPart s := by
  unfold countMark
  split <;> simp

@[simp] theorem outer_plainMark (s : State) : outerPart (plainMark s) = outerPart s := by simp [plainMark]

@[simp] theorem outer_clockTakesMark (s : State) : outerPart (clockTakesMark s) = outerPart s := by
  unfold clockTakesMark
  split <;> simp

@[simp] theorem outer_rejoinEnd (s : State) : outerPart (rejoinEnd s) = outerPart s := by simp [rejoinEnd]

@[simp] theorem outer_clockTakesPermits (p : PerSide Bool) (s : State) : outerPart (clockTakesPermits p s) = outerPart s := by
  simp [clockTakesPermits]

@[simp] theorem outer_clockEntersManual (s : State) : outerPart (clockEntersManual s) = outerPart s := by
  simp [clockEntersManual]

@[simp] theorem outer_clockReturns (s : State) : outerPart (clockReturns s) = outerPart s := by simp [clockReturns]

@[simp] theorem outer_clockEntersOperate (s : State) : outerPart (clockEntersOperate s) = outerPart s := by
  simp [clockEntersOperate]

@[simp] theorem outer_clockEntersSetup (s : State) : outerPart (clockEntersSetup s) = outerPart s := by
  simp [clockEntersSetup]

/-! ## The protection unit -/

/-- Operations made for each item of a list keep what each of them keeps. -/
theorem inOrder_keeps {α β : Type} (part : State → β) (f : α → State → State)
    (h : ∀ x s, part (f x s) = part s) (l : List α) (s : State) : part (inOrder f l s) = part s := by
  induction l generalizing s with
  | nil => rfl
  | cons x l ih => simp only [inOrder, ih, h]

@[simp] theorem far_setEntryRec (e : ProtEntry) (r : EntryRec) (s : State) : farPart (setEntryRec e r s) = farPart s := rfl

@[simp] theorem far_evaluateAll (es : List ProtEntry) (s : State) : farPart (evaluateAll es s).2 = farPart s := by
  induction es generalizing s with
  | nil => rfl
  | cons e es ih =>
    simp only [evaluateAll]
    split
    · simp [ih]
    · exact ih s

@[simp] theorem far_recordTrip (x : ProtEntry × ProtEvent) (s : State) : farPart (recordTrip x s) = farPart s := by
  unfold recordTrip
  split <;> rfl

@[simp] theorem outer_moduleRequest (x : ProtEntry × ProtEvent) (s : State) : outerPart (moduleRequest x s) = outerPart s := by
  unfold moduleRequest
  split <;> simp

@[simp] theorem outer_trainTripRequest (x : ProtEntry × ProtEvent) (s : State) :
    outerPart (trainTripRequest x s) = outerPart s := by
  unfold trainTripRequest
  split <;> simp

/-- Publishing a permit pair drives the lines and leaves the rest of the outer part. -/
theorem outer_publishPermits (p : PerSide Bool) (s : State) :
    outerPart (publishPermits p s) = outerPart { s with permits := p } := by
  unfold publishPermits
  dsimp only
  split <;> simp

@[simp] theorem far_publishPermits (p : PerSide Bool) (s : State) : farPart (publishPermits p s) = farPart s :=
  (far_of_outer (outer_publishPermits p s)).trans rfl

@[simp] theorem far_formPermits (s : State) : farPart (formPermits s) = farPart s := by
  unfold formPermits
  dsimp only
  split <;> simp

@[simp] theorem far_laterStages (xs : List (ProtEntry × ProtEvent)) (s : State) : farPart (laterStages xs s) = farPart s := by
  simp only [laterStages, far_formPermits]
  rw [inOrder_keeps farPart trainTripRequest (fun x s => far_of_outer (outer_trainTripRequest x s)),
    inOrder_keeps farPart moduleRequest (fun x s => far_of_outer (outer_moduleRequest x s))]

@[simp] theorem far_protArrival (es : List ProtEntry) (s : State) : farPart (protArrival es s) = farPart s := by
  simp only [protArrival, far_laterStages]
  rw [inOrder_keeps farPart recordTrip (fun x s => far_recordTrip x s), far_evaluateAll]

/-- After a formation the permit lines are at the levels of R150, formed from the entries, the working set and the mode as
they stand. -/
theorem formPermits_permits (s : State) : (formPermits s).permits = .ofFn (permitLevel s) := by
  unfold formPermits
  dsimp only
  split
  · exact Eq.symm ‹_›
  · have h := outer_publishPermits (PerSide.ofFn (permitLevel s)) s
    simp only [outerPart, Prod.mk.injEq] at h
    exact h.2.2.2.1

/-- A formation of the permit lines leaves the protection unit's own state. -/
theorem formPermits_prot (s : State) : (formPermits s).prot = s.prot := by
  unfold formPermits
  dsimp only
  split
  · rfl
  · have h := outer_publishPermits (PerSide.ofFn (permitLevel s)) s
    simp only [outerPart, Prod.mk.injEq] at h
    exact h.2.2.2.2.2.1

/-! ## Scans and marks -/

@[simp] theorem far_publish (n : Int) (s : State) : farPart (publish n s) = farPart s := by
  unfold publish
  rw [inOrder_keeps farPart (scanTask n) ?_]
  · rfl
  · intro x s
    cases x
    · exact far_of_outer (outer_heatTakesScan n s)
    · exact far_protArrival _ s
    · exact far_protArrival _ s
    · exact far_of_outer (outer_seqTakesScan s)

end Sys2Proof.Machine
end

