-- ==== Sys2Proof/Laws/Outcomes.lean ====
section
/-! SUPPORT. What the working of a command answers: when the part runs, the taking of a request and its reply, and what the
operations shared by the train commands leave of the train table, the clock and the heat store. -/
namespace Sys2Proof.Machine

/-- A command worked while the part runs answers its effect. -/
theorem whenRunning_of {f : State → State} {s : State} (h : running s = true) : whenRunning f s = .next (f s) := by
  simp [whenRunning, h]

/-- A command that reaches a part held in reset or without supply changes nothing. -/
theorem whenRunning_held {f : State → State} {s : State} (h : running s = false) : whenRunning f s = .next s := by
  simp [whenRunning, h]

/-- A request frame of the kind at the head of the host queue is worked and answered. -/
theorem answer_head {k : Byte} {work : List Byte → State → Worked} {s : State} {f : Frame} {fs : List Frame}
    (hq : s.link.queue.host = f :: fs) (hk : f.kind = k) : answer k work s = sendReply f (work f.body s) := by
  simp [answer, hq, hk]

/-- Without a request frame of the kind at the head of the host queue nothing is taken. -/
theorem answer_none {k : Byte} {work : List Byte → State → Worked} {s : State}
    (h : ∀ f fs, s.link.queue.host = f :: fs → f.kind ≠ k) : answer k work s = s := by
  unfold answer
  split
  · rename_i f fs hq
    rw [if_neg (h f fs hq)]
  · rfl

/-- A reply writes the link unit alone. -/
theorem sendReply_eq (f : Frame) (w : Worked) : sendReply f w = { w.2 with link := (sendReply f w).link } := rfl

@[simp] theorem sendReply_hostTx (f : Frame) (w : Worked) :
    (sendReply f w).link.hostTx = w.2.link.hostTx ++ [⟨f.kind ||| 0x80, f.tag, w.1⟩] := rfl

@[simp] theorem sendReply_queue (f : Frame) (w : Worked) :
    (sendReply f w).link.queue = { w.2.link.queue with host := w.2.link.queue.host.drop 1 } := rfl

/-! ## What a request for a run leaves -/

@[simp] theorem requestRun_seq (s : State) : (requestRun s).seq = s.seq := by
  unfold requestRun; split; rfl; split <;> rfl

@[simp] theorem requestRun_clock (s : State) : (requestRun s).clock = s.clock := by
  unfold requestRun; split; rfl; split <;> rfl

@[simp] theorem requestRun_heat (s : State) : (requestRun s).heat = s.heat := by
  unfold requestRun; split; rfl; split <;> rfl

@[simp] theorem requestRun_link (s : State) : (requestRun s).link = s.link := by
  unfold requestRun; split; rfl; split <;> rfl

/-- In SETUP no request is kept (R79). -/
theorem requestRun_setup {s : State} (h : s.mode = .setup) : requestRun s = s := by simp [requestRun, h]

/-! ## What a role evaluation leaves -/

/-- A valve command leaves the train table, the clock, the book and the engine. -/
theorem sendValve_rest (m : HeatModule) (s : State) :
    ((sendValve m s).seq, (sendValve m s).clock, (sendValve m s).book, (sendValve m s).proj)
      = (s.seq, s.clock, s.book, s.proj) := by
  unfold sendValve
  dsimp only
  split <;> rfl

/-- A role evaluation leaves the train table, the clock, the book and the engine. -/
theorem roleEvaluation_rest (s : State) :
    ((roleEvaluation s).seq, (roleEvaluation s).clock, (roleEvaluation s).book, (roleEvaluation s).proj)
      = (s.seq, s.clock, s.book, s.proj) := by
  simp only [roleEvaluation, sendValves, HeatModule.all, List.foldl, sendValve_rest]
  rfl

/-- The heat store unit's taking of train states leaves the train table, the clock, the book and the engine. -/
theorem takeTrainStates_rest (s : State) :
    ((takeTrainStates s).seq, (takeTrainStates s).clock, (takeTrainStates s).book, (takeTrainStates s).proj)
      = (s.seq, s.clock, s.book, s.proj) := by
  unfold takeTrainStates
  dsimp only
  split
  · rfl
  · rw [roleEvaluation_rest]

/-! ## Entry into a train state -/

/-- All that entry into a state does to the train sequencer: the train's record and its side's list. -/
theorem enterState_seq (t : Train) (st : TrainState) (s : State) :
    (enterState t st s).seq =
      { s.seq with
        trains := s.seq.trains.set t (enteredRec st (s.seq.trains.get t))
        sides := s.seq.sides.set t.side
          { s.seq.sides.get t.side with order := listAfter t st (s.seq.sides.get t.side).order } } := by
  unfold enterState
  dsimp only
  have h := congrArg Prod.fst (takeTrainStates_rest
    (setSide t.side { s.seq.sides.get t.side with order := listAfter t st (s.seq.sides.get t.side).order }
      (setTrain t (enteredRec st (s.seq.trains.get t)) s)))
  split <;> simpa using h

/-- Entry into a state leaves the dispatch clock. -/
@[simp] theorem enterState_clock (t : Train) (st : TrainState) (s : State) : (enterState t st s).clock = s.clock := by
  unfold enterState
  dsimp only
  have h := congrArg (fun x => x.2.1) (takeTrainStates_rest
    (setSide t.side { s.seq.sides.get t.side with order := listAfter t st (s.seq.sides.get t.side).order }
      (setTrain t (enteredRec st (s.seq.trains.get t)) s)))
  split <;> simpa using h

/-- The train's record after its entry into a state (R118). -/
@[simp] theorem enterState_self (t : Train) (st : TrainState) (s : State) :
    (enterState t st s).seq.trains.get t = enteredRec st (s.seq.trains.get t) := by simp [enterState_seq]

/-- Entry of one train into a state leaves every other train's record. -/
theorem enterState_other {t u : Train} (st : TrainState) (s : State) (h : u ≠ t) :
    (enterState t st s).seq.trains.get u = s.seq.trains.get u := by
  simp [enterState_seq, PerTrain.get_set_ne _ _ h]

/-! ## Receivers -/

/-- Bytes taken in two parts are taken as one. -/
theorem feedAll_append (l : Link) (a b : List Byte) (s : State) : feedAll l (a ++ b) s = feedAll l b (feedAll l a s) := by
  induction a generalizing s with
  | nil => rfl
  | cons x a ih => simp [feedAll, ih]

/-! ## Orders -/

/-- Operations made in order over a list joined of two parts. -/
theorem inOrder_append {α : Type} (f : α → State → State) (a b : List α) (s : State) :
    inOrder f (a ++ b) s = inOrder f b (inOrder f a s) := by
  induction a generalizing s with
  | nil => rfl
  | cons x a ih => simp [inOrder, ih]

end Sys2Proof.Machine
end

