-- ==== Sys2Proof/WellFormed.lean ====
section
/-! DEFINITION. Which commands are well formed: what the links can bring in one arrival (R170). The meanings are total
and do not rest on it. -/
namespace Sys2Proof

/-- The longest frame on the wire: SOF, two LEN bytes, 510 bytes of KIND, TAG and BODY, two CRC bytes (10.1). -/
def maxWireBytes : Nat := 515

/-- A command the outside can send. A LINK_FRAME_RX brings at least one byte and no more than one frame holds; the bytes
after a gap are no more than one frame holds. -/
def Instr.wellFormed : Instr → Bool
  | .linkFrameRx _ bs => 1 ≤ bs.length && bs.length ≤ maxWireBytes
  | .frameGapTimeout _ bs => bs.length ≤ maxWireBytes
  | .powerOn | .resetInFall | .resetInRise | .esdInChange _ | .fieldFrameDiscard | .scan | .sensorSuspect _
  | .transducerReturnGood _ | .windowExit _ | .balanceUpdate | .mark | .fieldLossBegin | .boundary | .rejoinRampEnd
  | .undelivered _ | .startTimeout _ | .stopTimeout _ | .warmHoldExpiry _ | .stopNewest _ | .tripCountClear _
  | .protDelayExpiry _ | .protRecoveryDelayExpiry _ | .projectionRunComplete | .configSaveComplete _ | .hostBadKind
  | .statusRead | .measRead | .heatRead | .trainRead | .bookRead | .slotRead | .dispatchRead | .protRead
  | .tripListRead | .mapRead | .linkRead | .entryPut | .entryDrop | .groupOpen | .groupAdd | .groupLaunch
  | .groupDiscard | .reserveCall | .manualTarget | .trainStart | .trainStop | .trainLock | .trainUnlock | .trainReset
  | .moduleService | .heatPreset | .protRecover | .tripListClear | .alarmClear | .alarmMaskSet | .modeSet | .timeSet
  | .configPut | .mapPut | .configSave | .sofDetected _ _ _ | .powerLoss => true

end Sys2Proof
end

