-- ==== Sys2Proof/Laws/PerInstr.lean ====
section
/-! SUPPORT. A property of the commands as syntax, said once for each constructor: only a run of link bytes has a bound that
a command may break (R170). -/
namespace Sys2Proof.Laws

/-- A command is well formed unless it brings link bytes beyond what one frame holds. -/
def OnlyBytesBound.Statement (i : Instr) : Prop :=
  i.wellFormed = true ∨ (∃ l bs, i = .linkFrameRx l bs) ∨ (∃ l bs, i = .frameGapTimeout l bs)

theorem OnlyBytesBound.powerOn : OnlyBytesBound.Statement .powerOn := .inl rfl
theorem OnlyBytesBound.resetInFall : OnlyBytesBound.Statement .resetInFall := .inl rfl
theorem OnlyBytesBound.resetInRise : OnlyBytesBound.Statement .resetInRise := .inl rfl
theorem OnlyBytesBound.esdInChange (high : Bool) : OnlyBytesBound.Statement (.esdInChange high) := .inl rfl
theorem OnlyBytesBound.linkFrameRx (l : Link) (bytes : List Byte) : OnlyBytesBound.Statement (.linkFrameRx l bytes) := .inr (.inl ⟨l, bytes, rfl⟩)
theorem OnlyBytesBound.frameGapTimeout (l : Link) (bytes : List Byte) : OnlyBytesBound.Statement (.frameGapTimeout l bytes) := .inr (.inr ⟨l, bytes, rfl⟩)
theorem OnlyBytesBound.fieldFrameDiscard : OnlyBytesBound.Statement .fieldFrameDiscard := .inl rfl
theorem OnlyBytesBound.scan : OnlyBytesBound.Statement .scan := .inl rfl
theorem OnlyBytesBound.sensorSuspect (p : Transducer) : OnlyBytesBound.Statement (.sensorSuspect p) := .inl rfl
theorem OnlyBytesBound.transducerReturnGood (p : Transducer) : OnlyBytesBound.Statement (.transducerReturnGood p) := .inl rfl
theorem OnlyBytesBound.windowExit (t : Train) : OnlyBytesBound.Statement (.windowExit t) := .inl rfl
theorem OnlyBytesBound.balanceUpdate : OnlyBytesBound.Statement .balanceUpdate := .inl rfl
theorem OnlyBytesBound.mark : OnlyBytesBound.Statement .mark := .inl rfl
theorem OnlyBytesBound.fieldLossBegin : OnlyBytesBound.Statement .fieldLossBegin := .inl rfl
theorem OnlyBytesBound.boundary : OnlyBytesBound.Statement .boundary := .inl rfl
theorem OnlyBytesBound.rejoinRampEnd : OnlyBytesBound.Statement .rejoinRampEnd := .inl rfl
theorem OnlyBytesBound.undelivered (sd : Side) : OnlyBytesBound.Statement (.undelivered sd) := .inl rfl
theorem OnlyBytesBound.startTimeout (t : Train) : OnlyBytesBound.Statement (.startTimeout t) := .inl rfl
theorem OnlyBytesBound.stopTimeout (t : Train) : OnlyBytesBound.Statement (.stopTimeout t) := .inl rfl
theorem OnlyBytesBound.warmHoldExpiry (t : Train) : OnlyBytesBound.Statement (.warmHoldExpiry t) := .inl rfl
theorem OnlyBytesBound.stopNewest (sd : Side) : OnlyBytesBound.Statement (.stopNewest sd) := .inl rfl
theorem OnlyBytesBound.tripCountClear (e : ProtEntry) : OnlyBytesBound.Statement (.tripCountClear e) := .inl rfl
theorem OnlyBytesBound.protDelayExpiry (e : ProtEntry) : OnlyBytesBound.Statement (.protDelayExpiry e) := .inl rfl
theorem OnlyBytesBound.protRecoveryDelayExpiry (e : ProtEntry) : OnlyBytesBound.Statement (.protRecoveryDelayExpiry e) := .inl rfl
theorem OnlyBytesBound.projectionRunComplete : OnlyBytesBound.Statement .projectionRunComplete := .inl rfl
theorem OnlyBytesBound.configSaveComplete (crcRead : Word16) : OnlyBytesBound.Statement (.configSaveComplete crcRead) := .inl rfl
theorem OnlyBytesBound.hostBadKind : OnlyBytesBound.Statement .hostBadKind := .inl rfl
theorem OnlyBytesBound.statusRead : OnlyBytesBound.Statement .statusRead := .inl rfl
theorem OnlyBytesBound.measRead : OnlyBytesBound.Statement .measRead := .inl rfl
theorem OnlyBytesBound.heatRead : OnlyBytesBound.Statement .heatRead := .inl rfl
theorem OnlyBytesBound.trainRead : OnlyBytesBound.Statement .trainRead := .inl rfl
theorem OnlyBytesBound.bookRead : OnlyBytesBound.Statement .bookRead := .inl rfl
theorem OnlyBytesBound.slotRead : OnlyBytesBound.Statement .slotRead := .inl rfl
theorem OnlyBytesBound.dispatchRead : OnlyBytesBound.Statement .dispatchRead := .inl rfl
theorem OnlyBytesBound.protRead : OnlyBytesBound.Statement .protRead := .inl rfl
theorem OnlyBytesBound.tripListRead : OnlyBytesBound.Statement .tripListRead := .inl rfl
theorem OnlyBytesBound.mapRead : OnlyBytesBound.Statement .mapRead := .inl rfl
theorem OnlyBytesBound.linkRead : OnlyBytesBound.Statement .linkRead := .inl rfl
theorem OnlyBytesBound.entryPut : OnlyBytesBound.Statement .entryPut := .inl rfl
theorem OnlyBytesBound.entryDrop : OnlyBytesBound.Statement .entryDrop := .inl rfl
theorem OnlyBytesBound.groupOpen : OnlyBytesBound.Statement .groupOpen := .inl rfl
theorem OnlyBytesBound.groupAdd : OnlyBytesBound.Statement .groupAdd := .inl rfl
theorem OnlyBytesBound.groupLaunch : OnlyBytesBound.Statement .groupLaunch := .inl rfl
theorem OnlyBytesBound.groupDiscard : OnlyBytesBound.Statement .groupDiscard := .inl rfl
theorem OnlyBytesBound.reserveCall : OnlyBytesBound.Statement .reserveCall := .inl rfl
theorem OnlyBytesBound.manualTarget : OnlyBytesBound.Statement .manualTarget := .inl rfl
theorem OnlyBytesBound.trainStart : OnlyBytesBound.Statement .trainStart := .inl rfl
theorem OnlyBytesBound.trainStop : OnlyBytesBound.Statement .trainStop := .inl rfl
theorem OnlyBytesBound.trainLock : OnlyBytesBound.Statement .trainLock := .inl rfl
theorem OnlyBytesBound.trainUnlock : OnlyBytesBound.Statement .trainUnlock := .inl rfl
theorem OnlyBytesBound.trainReset : OnlyBytesBound.Statement .trainReset := .inl rfl
theorem OnlyBytesBound.moduleService : OnlyBytesBound.Statement .moduleService := .inl rfl
theorem OnlyBytesBound.heatPreset : OnlyBytesBound.Statement .heatPreset := .inl rfl
theorem OnlyBytesBound.protRecover : OnlyBytesBound.Statement .protRecover := .inl rfl
theorem OnlyBytesBound.tripListClear : OnlyBytesBound.Statement .tripListClear := .inl rfl
theorem OnlyBytesBound.alarmClear : OnlyBytesBound.Statement .alarmClear := .inl rfl
theorem OnlyBytesBound.alarmMaskSet : OnlyBytesBound.Statement .alarmMaskSet := .inl rfl
theorem OnlyBytesBound.modeSet : OnlyBytesBound.Statement .modeSet := .inl rfl
theorem OnlyBytesBound.timeSet : OnlyBytesBound.Statement .timeSet := .inl rfl
theorem OnlyBytesBound.configPut : OnlyBytesBound.Statement .configPut := .inl rfl
theorem OnlyBytesBound.mapPut : OnlyBytesBound.Statement .mapPut := .inl rfl
theorem OnlyBytesBound.configSave : OnlyBytesBound.Statement .configSave := .inl rfl
theorem OnlyBytesBound.sofDetected (l : Link) (lenHigh lenLow : Byte) : OnlyBytesBound.Statement (.sofDetected l lenHigh lenLow) := .inl rfl
theorem OnlyBytesBound.powerLoss : OnlyBytesBound.Statement .powerLoss := .inl rfl

end Sys2Proof.Laws
end

