-- ==== Sys2Proof/Tests/Slice0.lean ====
section
/-! SUPPORT. Tests: ill-formed commands refused, the manual's worked examples and tables (their section in each docstring), and
for every statement with hypotheses a state and operands that meet them. -/

-- One theorem after another: together their evaluations ask for more threads than the memory holds.
set_option Elab.async false

namespace Sys2Proof.Machine

/-! ## Helpers -/

/-- The state after reset with the order written first in every open order (a value of the free field to evaluate with). -/
def base : State := { State.reset with choice := 0 }

/-- A request alone in the host queue. -/
def ask (kind : Byte) (body : List Byte) (s : State) : State :=
  { s with link := { s.link with queue := { s.link.queue with host := [⟨kind, 7, body⟩] } } }

theorem ask_asked (kind : Byte) (body : List Byte) (s : State) (h : running s = true) :
    Asked kind ⟨kind, 7, body⟩ (ask kind body s) := ⟨h, rfl, rfl⟩

/-- A field frame alone in the field queue. -/
def field (f : Frame) (s : State) : State :=
  { s with link := { s.link with queue := { s.link.queue with field := [f] } } }

/-- A property of the next state, as a Boolean. -/
def after (c : Instr) (s : State) (p : State → Bool) : Bool :=
  match exec c s with
  | .next t => p t
  | .fault _ => false
  | .refused _ => false

/-- The body of the last reply. -/
def lastReply (s : State) : List Byte := (s.link.hostTx.getLast?.map (·.body)).getD []

/-- In a mode with the time valid, both permits high and seen, and a good pressure of 61.00 bar. -/
def at61 (m : Mode) (s : State) : State :=
  { s with
    mode := m, permits := .both true
    clock := { s.clock with timeValid := true, permitsSeen := .both true }
    meas := { s.meas with table := { s.meas.table with pressure := ⟨6100, .good⟩ } }
    seq := { s.seq with sides := .both { SeqSide.powerOn with permitSeen := true } } }

/-- The working set replaced. -/
def withWs (w : WorkingSet) (s : State) : State := { s with ws := w }

/-- A train put into a state; a STARTING or RUNNING one goes to the end of its list. -/
def put (t : Train) (st : TrainState) (s : State) : State :=
  let s1 := { s with seq := { s.seq with trains := s.seq.trains.set t { s.seq.trains.get t with state := st } } }
  if st = .starting ∨ st = .running then
    setSide t.side { s1.seq.sides.get t.side with order := (s1.seq.sides.get t.side).order ++ [t] } s1
  else s1

/-- A slot with clipped targets of a completed projection. -/
def slotOf (n : Word32) (c d lead : Int) (r : Option Reserve) : Slot :=
  ⟨⟨⟨n, c, d, lead, r⟩, 0, false, { pendingFeas with status := .firm, clipped := ⟨c, d⟩ }⟩, .book, .projection⟩

/-- Decide a start-order list invariant on a concrete state. -/
theorem lists_of (s : State)
    (h : (Side.all.all fun sd => decide (s.seq.sides.get sd).order.Nodup && Train.all.all fun t =>
      decide (t ∈ (s.seq.sides.get sd).order ↔ t.side = sd ∧
        ((s.seq.trains.get t).state = .starting ∨ (s.seq.trains.get t).state = .running))) = true) :
    ListsHoldTheirTrains s := by
  intro sd
  have hs : sd ∈ Side.all := by cases sd <;> decide
  have h1 := List.all_eq_true.mp h sd hs
  rw [Bool.and_eq_true] at h1
  refine ⟨of_decide_eq_true h1.1, fun t => ?_⟩
  have ht : t ∈ Train.all := by cases t <;> decide
  exact of_decide_eq_true (List.all_eq_true.mp h1.2 t ht)

/-! ## Well-formedness: an ill-formed term for each check -/

theorem test_wf_empty_frame : (Instr.linkFrameRx .host []).wellFormed = false := by decide
theorem test_wf_long_frame : (Instr.linkFrameRx .field (List.replicate 516 0)).wellFormed = false := by decide +kernel
theorem test_wf_longest_frame : (Instr.linkFrameRx .field (List.replicate 515 0)).wellFormed = true := by decide +kernel
theorem test_wf_long_after_gap : (Instr.frameGapTimeout .host (List.replicate 516 0)).wellFormed = false := by
  decide +kernel

/-- No row of the table gives bits: no word spells a command (log entry 4). -/
theorem test_decode_none (n w : Nat) : Sys2Proof.decodeTableWord n w = none := rfl

/-! ## Worked examples of chapters 1 to 5 -/

/-- A scan of the number and the three pressures given, every other reading 0. -/
def scanFrame (n p1 p2 p3 : Int) : Frame := ⟨0x50, 0, be2 n ++ be2 p1 ++ be2 p2 ++ be2 p3 ++ List.replicate 73 0⟩

/-- 1.10, the row of a step of 3: accepted, two missed scans counted, below gap_alarm. -/
theorem test_scan_gap : after .scan
    (field (scanFrame 2 6000 6000 6000) { base with meas := { base.meas with lastScan := some 0xFFFF, fieldLoss := false } })
    (fun t => t.meas.gaps == 2 && t.meas.duplicates == 0 && t.meas.lastScan == some 2 && t.link.alarms &&& 0x40 == 0)
    = true := by decide +kernel

/-- 1.11: P3 deviates for the fifth scan running and becomes SUSPECT; the pressure is the mean of the other two. -/
theorem test_scan_suspect : after .scan
    (field (scanFrame 105 6500 6504 6560) { base with meas := { base.meas with
      lastScan := some 104
      transducers := ⟨⟨.good, 0, none⟩, ⟨.good, 0, none⟩, ⟨.good, 4, none⟩⟩ } })
    (fun t => t.meas.transducers.p3.state == .suspect && t.meas.table.pressure == ⟨6502, .substituted⟩
      && t.link.alarms &&& 0x20 == 0x20) = true := by decide +kernel

/-- 2.3.1: the three readings of the compressor map. -/
theorem test_map_reads : (workC factory 5950 140, workC factory 9000 140, workC factory 3200 (-400)) = (642, 756, 540) := by
  decide +kernel

/-- 2.4: mass and pressure step. -/
theorem test_mass_and_step : (mass 480 1800 642, pressStep factory 67289) = (67289, 44) := by decide +kernel

/-- 2.5.2: the high-side clip. -/
theorem test_high_clip : highClip { factory with pWh := 6830 } 6800 480 0 703 = 366 := by decide +kernel

/-- 2.5.3: the low-side clip and the heat clip. -/
theorem test_low_clip : (lowClip { factory with pWl := 4850 } 4900 600 0 469, heatClip factory 600 6000000 469)
    = (407, 82) := by decide +kernel

/-- A module with a stored heat, known, and its fill. -/
def warmModule (stored capacity residue : Int) : ModuleRec :=
  withStored capacity stored residue { ModuleRec.powerOn with known := true }

/-- 3.3.1, scan 3: truncation toward zero over four periods. -/
theorem test_integrate : (integrate factory 4 250000000 0 0 (-2210) (warmModule 100002053 250000000 200)).record.stored
      = 100000286 ∧
    (integrate factory 4 250000000 0 0 (-2210) (warmModule 100002053 250000000 200)).record.residue = -800 := by
  decide +kernel

/-- 3.3.1, module H5: saturation at the capacity. -/
theorem test_saturate : integrate factory 1 1000000 0 0 4000 (warmModule 999500 1000000 300)
    = ⟨{ warmModule 1000000 1000000 0 with flow := 4000 }, false, true⟩ := by decide +kernel

/-- A module of a fill, a top temperature, a role and a share. -/
def filled (fill top : Int) (role : Role) (share : Int) : ModuleRec :=
  { ModuleRec.powerOn with known := true, fill := fill, top := top, role := role, share := share, sentRole := role,
                           sentShare := share }

/-- The heat store of 3.7.1, with the discharge side just become active. -/
def heat371 : State :=
  { base with heat := { base.heat with
    active := .both true
    sets := ⟨⟨[.h1, .h2, .h3, .h4], .adjusting⟩, .empty⟩
    modules := ⟨filled 850 5600 .charging 250, filled 420 5450 .charging 250, filled 610 5100 .charging 250,
      filled 55 5300 .charging 250, { filled 880 5700 .idle 0 with inService := false },
      { filled 0 4800 .idle 0 with known := false }⟩ } }

/-- 3.7.1: both sets, and the four valve commands in module order. -/
theorem test_roles : (roleEvaluation heat371).heat.sets = ⟨⟨[.h3, .h4], .stable⟩, ⟨[.h1, .h2], .stable⟩⟩ ∧
    (roleEvaluation heat371).link.fieldTx.map (fun f => (f.kind, f.body)) =
      [(0x52, [0, 2, 1, 244]), (0x52, [1, 2, 1, 244]), (0x52, [2, 1, 1, 244]), (0x52, [3, 1, 1, 244])] := by
  decide +kernel

/-- The shares of three charge members after a step from 334, 333, 333 with the fills given. -/
def stepped3 (a b c : Int) : List Int :=
  let ms : PerModule ModuleRec := ⟨filled a 0 .charging 334, filled b 0 .charging 333, filled c 0 .charging 333,
    .powerOn, .powerOn, .powerOn⟩
  [HeatModule.h1, .h2, .h3].map (steppedShares factory .charge ms [.h1, .h2, .h3]).get

/-- 3.7.2: entering ADJUSTING, an excess, a deficit. -/
theorem test_steps : (stepped3 620 540 700, stepped3 500 510 650, stepped3 500 640 660)
    = ([334, 343, 323], [334, 343, 323], [344, 333, 323]) := by decide +kernel

/-- 3.7.2: the discharge set and share_min. -/
theorem test_share_min :
    let ms : PerModule ModuleRec := ⟨.powerOn, .powerOn, .powerOn, filled 300 0 .discharging 105, .powerOn,
      filled 900 0 .discharging 895⟩
    [HeatModule.h4, .h6].map (steppedShares factory .discharge ms [.h4, .h6]).get = [100, 900] := by decide +kernel

/-- The book of 4.6: an entry for each interval from 5002 to 5096. -/
def book46 : List Entry :=
  (List.range 95).map (fun k => putEntry ⟨BitVec.ofNat 32 (5002 + k), 0, 0, 0, none⟩ 0)

/-- A PUT of 4.6. -/
def put46 (n : Word32) (c lead : Int) : Change := .put ⟨n, c, 0, lead, none⟩

/-- The changes of 4.6. -/
def changes46 : List Change :=
  [put46 5097 480 120, .drop 5010, put46 5098 480 120, put46 5002 300 1799, put46 5099 480 120]

/-- The index and status of a launch that fails. -/
def failure (x : Except (Nat × Status) (List Entry)) : Option (Nat × Status) :=
  match x with
  | .error e => some e
  | .ok _ => none

/-- 4.6: the first launch fails BOOK_FULL at index 5, the second LATE at index 4. -/
theorem test_launch_fails : failure (launch true 5000 1 changes46 book46) = some (5, .bookFull) ∧
    failure (launch true 5001 1 changes46 (book46.drop 1)) = some (4, .late) := by decide +kernel

/-- 4.6: the rebuilt launch passes and leaves 96 entries. -/
theorem test_launch_passes : (match launch true 5001 1
      [put46 5097 480 120, .drop 5010, put46 5098 480 120, put46 5099 480 120] (book46.drop 1) with
    | .ok es => es.length
    | .error _ => 0) = 96 := by decide +kernel

/-! ## Worked examples of chapters 6 to 10 -/

/-- 6.11: an interval ramp of 120 marks from 300 toward 480 at its first and eleventh mark. -/
theorem test_ramp : (rampValue 300 480 1 120, rampValue 300 480 11 120) = (301, 316) := by decide +kernel

/-- R107: a deployment of 400 under dispatch values 360 and 200 lowers the charge first. -/
theorem test_deployed : deployed ⟨360, 200⟩ 400 = ⟨0, 240⟩ ∧ deployed ⟨360, 200⟩ (-300) = ⟨460, 0⟩ := by decide +kernel

/-- The charge side of 7.10 just before its target rises to 480. -/
def rising : State :=
  let s := at61 .operate (withWs { factory with rotation :=
    ⟨#v[1, 2, 3, 4, 2, 1, 3, 4, 1, 2, 4, 3, 2, 1, 4, 3], factory.rotation.discharge⟩ } base)
  let s1 := setSide .charge { s.seq.sides.charge with pointer := 3 } (put .c2 .warm (put .c4 .offline s))
  { s1 with clock := { s1.clock with dispatch := ⟨480, 0⟩ } }

/-- 7.10: C2, C1 and C3 start in that order, the pointer ends after C3's phase, and the shortfall is 480. -/
theorem test_rotation : (formTargets false rising).seq.sides.charge.order = [.c2, .c1, .c3] ∧
    (formTargets false rising).seq.sides.charge.pointer = 7 ∧
    (formTargets false rising).clock.record.charge.shortfall = 480 := by decide +kernel

/-- 7.10: 480 over C2, C1 and C3 at 180, 180 and 150. -/
theorem test_shares : [Train.c2, .c1, .c3].map (trainShare factory [.c2, .c1, .c3] 480) = [170, 169, 141] := by
  decide +kernel

/-- The CAV_HIGH entry of 8.11 after an evaluation of it at a pressure. -/
def cavHighAt (v : Int) (r : EntryRec) : EntryRec × ProtEvent :=
  evaluateEntry { factory with latchLimit := { factory.latchLimit with cavHigh := 2 } } false .cavHigh v r

/-- 8.11, scan 810: the sixth true evaluation trips; the second trip latches. -/
theorem test_trip : cavHighAt 7216 ⟨.pending, 4, 0, 0, some 7214⟩ = (⟨.tripped, 0, 1, 0, some 7216⟩, .tripped) ∧
    cavHighAt 7216 ⟨.pending, 4, 1, 0, some 7214⟩ = (⟨.latched, 0, 2, 0, some 7216⟩, .latched) := by decide +kernel

/-- 8.11, scans 811, 816 and 827. -/
theorem test_recovery : cavHighAt 7170 ⟨.tripped, 0, 1, 0, none⟩ = (⟨.tripped, 0, 1, 0, some 7170⟩, .quiet) ∧
    cavHighAt 7158 ⟨.recovering, 3, 1, 0, none⟩ = (⟨.tripped, 0, 1, 0, some 7158⟩, .quiet) ∧
    cavHighAt 7140 ⟨.recovering, 9, 1, 0, none⟩ = (⟨.normal, 0, 1, 0, some 7140⟩, .cleared) := by decide +kernel

/-- R171: the check value over "123456789". -/
theorem test_crc_check : crc16 [0x31, 0x32, 0x33, 0x34, 0x35, 0x36, 0x37, 0x38, 0x39] = 0x29B1 := by decide +kernel

/-- 10.8: frame A is accepted, and the book's reply to it has kind 0x90, its tag, and a body of 8 bytes. -/
theorem test_exchange : after .entryPut
    (feedAll .host (Frame.wire ⟨0x10, 0x2A, [0, 0, 0x1B, 0x62, 1, 0xE0, 0, 0, 0, 120, 0, 0, 0, 0, 0, 0, 0]⟩)
      (let s := at61 .operate base
       { s with clock := { s.clock with interval := 7000 } }))
    (fun t => t.link.hostTx == [⟨0x90, 0x2A, [0, 0, 0, 0x1B, 0x62, 0, 1, 1]⟩] && t.link.queue.host == []
      && t.link.counters.host.accepted == 1) = true := by decide +kernel

/-- 10.8: a damaged frame is an error and no reply; a kind outside the catalogue is answered BAD_KIND. -/
theorem test_bad_kind : after .hostBadKind (ask 0x7E [] base) (fun t => t.link.hostTx == [⟨0xFE, 7, [5]⟩]) = true := by
  decide +kernel

/-- 9.2: OPERATE is refused NO_TIME before the time is set, and entered after TIME_SET with the factory settings. -/
theorem test_no_time : after .modeSet (ask 0x34 [1] base) (fun t => lastReply t == [6] && t.mode == .setup) = true := by
  decide +kernel

/-- R167, R169: the state after reset is the start-up of a part powered on with a blank image and both lines high. -/
theorem test_reset_is_start_up : exec .powerOn { State.reset with power := false } = .next State.reset := by rfl

/-! ## Witnesses: states and operands that meet the hypotheses of each statement

A statement with several clauses has one for each, at the ends of its ranges. -/

theorem witness_StepRunsTheFrontCommand : { base with pending := [.mark] }.pending = .mark :: [] := rfl

theorem witness_StartUp_supply : StartsUp .powerOn { base with power := false } := .inl ⟨rfl, rfl, rfl⟩
theorem witness_StartUp_reset_esd_low : StartsUp .resetInRise { base with resetIn := false, esdIn := false } :=
  .inr ⟨rfl, rfl, rfl⟩
theorem witness_PowerOn_held :
    let s := { base with power := false, resetIn := false }
    s.power = false ∧ s.resetIn = false := ⟨rfl, rfl⟩
theorem witness_PowerOn_powered : base.power = true ∧ ∃ u, exec .powerLoss base = .next u := ⟨rfl, _, rfl⟩
theorem witness_ResetInRise_high : base.resetIn = true := rfl
theorem witness_StartUpLoads_sound :
    let s := { base with power := false, store := { base.store with image := .stored factory (imageCrc factory) } }
    StartsUp .powerOn s ∧ s.store.image = .stored factory (imageCrc factory) := ⟨.inl ⟨rfl, rfl, rfl⟩, rfl⟩
theorem witness_StartUpLoads_blank :
    let s := { base with power := false }
    StartsUp .powerOn s ∧ ∀ w, s.store.image ≠ .stored w (imageCrc w) := ⟨.inl ⟨rfl, rfl, rfl⟩, fun _ h => nomatch h⟩

theorem witness_HeldPart_reset : running { base with resetIn := false } = false ∧ drivesALine .scan = false := ⟨rfl, rfl⟩
theorem witness_HeldPart_supply : running { base with power := false } = false ∧ drivesALine .mark = false := ⟨rfl, rfl⟩
theorem witness_EsdFall : running base = true ∧ base.esdIn = true ∧ (base.prot.entries.get .esd).state = .normal :=
  ⟨rfl, rfl, rfl⟩
theorem witness_EsdRise :
    let s := { base with esdIn := false }
    running s = true ∧ true ≠ s.esdIn ∧ PermitsFollowTheTable s ∧ (s.prot.entries.get .esd).state = .normal :=
  ⟨rfl, nofun, by unfold PermitsFollowTheTable; decide +kernel, rfl⟩
theorem witness_Esd_latched :
    let s := fun h => setEntryRec .esd ⟨.latched, 0, 1, 0, some 1⟩ { base with esdIn := h }
    running (s true) = true ∧ false ≠ (s true).esdIn ∧ true ≠ (s false).esdIn ∧ PermitsFollowTheTable (s true) ∧
      PermitsFollowTheTable (s false) ∧ ∀ h, ((s h).prot.entries.get .esd).state = .latched :=
  ⟨rfl, nofun, nofun, by unfold PermitsFollowTheTable; decide +kernel, by unfold PermitsFollowTheTable; decide +kernel,
    fun h => by cases h <;> rfl⟩

theorem witness_WireFrame_room : running base = true ∧ base.link.rx.get .host = .hunt ∧
    (⟨0x36, 1, List.replicate 508 0xC3⟩ : Frame).body.length ≤ 508 ∧ (base.link.queue.get .host).length < 4 :=
  ⟨rfl, rfl, Nat.le_of_eq List.length_replicate, by decide⟩
theorem witness_WireFrame_full :
    let s := { base with link := { base.link with queue := ⟨[], [⟨0x50, 0, []⟩, ⟨0x50, 1, []⟩]⟩ } }
    running s = true ∧ s.link.rx.get .field = .hunt ∧ ([] : List Byte).length ≤ 508 ∧
      ¬ (s.link.queue.get .field).length < 2 := ⟨rfl, rfl, by simp, by decide⟩
theorem witness_BrokenFrames_crc : running base = true ∧ base.link.rx.get .host = .hunt ∧
    [(0 : Byte), 0].length = 2 ∧ [(0 : Byte), 0] ≠ be2n (crc16 (⟨0x01, 0, []⟩ : Frame).covered).toNat :=
  ⟨rfl, rfl, rfl, by decide +kernel⟩
theorem witness_BrokenFrames_gap :
    let s := { base with link := { base.link with rx := ⟨.hunt, .data 510 []⟩ } }
    running s = true ∧ s.link.rx.get .field ≠ .hunt := ⟨rfl, nofun⟩
/-- R170: a gap inside a frame and then the whole of another, which is accepted. -/
theorem test_gap_then_frame : after (.frameGapTimeout .field (Frame.wire ⟨0x50, 0, []⟩))
    { base with link := { base.link with rx := ⟨.hunt, .data 510 []⟩ } }
    (fun t => t.link.counters.field == ⟨1, 0, 1, 0⟩ && t.link.rx.field == .hunt) = true := by decide +kernel
/-- R170, at the ends of the range of LEN: 2 and 510 open a frame, 1 and 511 do not. -/
theorem test_len_range : (goodLen 1, goodLen 2, goodLen 510, goodLen 511) = (false, true, true, false) := rfl
theorem witness_Unowned_field :
    let f : Frame := ⟨0x50, 0, List.replicate 80 0⟩
    running base = true ∧ (field f base).link.queue.field = f :: [] ∧ ¬ (f.kind = 0x50 ∧ f.body.length = 81) :=
  ⟨rfl, rfl, by decide⟩
theorem witness_Unowned_host : Asked 0x7E ⟨0x7E, 7, []⟩ (ask 0x7E [] base) ∧ (0x7E : Byte) ∉ requestKinds :=
  ⟨ask_asked _ _ _ rfl, by decide⟩

theorem witness_Reads : Asked 0x01 ⟨0x01, 7, []⟩ (ask 0x01 [] base) ∧ Asked 0x0A ⟨0x0A, 7, [0]⟩ (ask 0x0A [0] base) :=
  ⟨ask_asked _ _ _ rfl, ask_asked _ _ _ rfl⟩
theorem witness_BookRead : Asked 0x05 ⟨0x05, 7, [0, 0, 0, 0]⟩ (ask 0x05 [0, 0, 0, 0] base) := ask_asked _ _ _ rfl
theorem witness_LinkRead : Asked 0x0B ⟨0x0B, 7, [0]⟩ (ask 0x0B [0] base) ∧ Asked 0x0B ⟨0x0B, 7, [1]⟩ (ask 0x0B [1] base) :=
  ⟨ask_asked _ _ _ rfl, ask_asked _ _ _ rfl⟩
theorem witness_AlarmAndTrip : Asked 0x30 ⟨0x30, 7, [0xFF, 0xFF]⟩ (ask 0x30 [0xFF, 0xFF] base) ∧
    Asked 0x31 ⟨0x31, 7, [0, 0]⟩ (ask 0x31 [0, 0] base) ∧ Asked 0x2D ⟨0x2D, 7, []⟩ (ask 0x2D [] base) :=
  ⟨ask_asked _ _ _ rfl, ask_asked _ _ _ rfl, ask_asked _ _ _ rfl⟩
theorem witness_Refusals : requestKind .modeSet = some 0x34 ∧ Asked 0x34 ⟨0x34, 7, [3]⟩ (ask 0x34 [3] base) :=
  ⟨rfl, ask_asked _ _ _ rfl⟩

/-- Field loss over, the last scan number as given. -/
def lastScan (n : Option Word16) (s : State) : State :=
  { s with meas := { s.meas with lastScan := n, fieldLoss := false, markCount := 0 } }

theorem witness_AcceptedScan_first :
    let f := scanFrame 0 0 0 0
    running (field f base) = true ∧ (field f base).link.queue.field = f :: [] ∧ f.kind = 0x50 ∧ f.body.length = 81 ∧
      ∀ l, (field f base).meas.lastScan = some l →
        1 ≤ ((scanOf f.body).number - l).toNat ∧ ((scanOf f.body).number - l).toNat ≤ 32768 :=
  ⟨rfl, rfl, rfl, by decide +kernel, nofun⟩
theorem witness_AcceptedScan_ends :
    let f := scanFrame 0 0 0 0
    let s := fun (l : Word16) => lastScan (some l) (field f base)
    running (s 0xFFFF) = true ∧ (s 0xFFFF).link.queue.field = f :: [] ∧ f.kind = 0x50 ∧ f.body.length = 81 ∧
      ((scanOf f.body).number - 0xFFFF).toNat = 1 ∧ ((scanOf f.body).number - 0x8000).toNat = 32768 :=
  ⟨rfl, rfl, rfl, by decide +kernel, by decide +kernel, by decide +kernel⟩
/-- A scan with the reports and heat flows given, the pressures 61.00 bar and every temperature 520.0 °C. -/
def scanWith (n : Int) (reports : List Byte) (flows : List Int) : Frame :=
  ⟨0x50, 0, be2 n ++ be2 6100 ++ be2 6100 ++ be2 6100 ++ be2 5200 ++ be2 5200 ++ reports ++ List.replicate 14 0
    ++ (List.replicate 12 5200).flatMap be2 ++ flows.flatMap be4⟩

/-- R2: with gap_alarm 3 a step of 4 raises FIELD_GAP and a step of 3 does not. -/
theorem test_field_gap :
    after .scan (lastScan (some 0xFFFC) (field (scanFrame 0 0 0 0) base)) (fun t => t.link.alarms &&& 0x40 == 0x40) = true ∧
    after .scan (lastScan (some 0xFFFD) (field (scanFrame 0 0 0 0) base)) (fun t => t.link.alarms &&& 0x40 == 0) = true := by
  decide +kernel
/-- R16, R17: the ring one value short of a rate, the value that completes it, and a gap of more than rate_window scans. -/
theorem test_rate :
    let s := fun (k : Nat) (l : Word16) => { base with
      ws := { factory with rateWindow := 8 }
      meas := { (lastScan (some l) base).meas with ring := List.replicate k 6000 } }
    after .scan (field (scanWith 0 (List.replicate 7 0) (List.replicate 6 0)) (s 7 0xFFFF)) (fun t => t.meas.rate == none)
      = true ∧
    after .scan (field (scanWith 0 (List.replicate 7 0) (List.replicate 6 0)) (s 8 0xFFFF))
      (fun t => t.meas.rate == some 100) = true ∧
    after .scan (field (scanWith 0 (List.replicate 7 0) (List.replicate 6 0)) (s 64 0xFFF7))
      (fun t => t.meas.ring == [6100]) = true := by decide +kernel
/-- A state whose modules hold 0, the capacity, 1 under it, and a heat not known. -/
def heats : State :=
  { base with heat := { base.heat with modules := ⟨warmModule 0 250000000 0, warmModule 250000000 250000000 0,
      warmModule 249999999 250000000 0, .powerOn, warmModule 1000 250000000 0, warmModule 1000 250000000 0⟩ } }
/-- R39, R40: below 0, above the capacity, to the capacity itself, a heat not known, and to 0 itself; both alarms. -/
theorem witness_AcceptedScan_heats : after .scan (field (scanWith 0 (List.replicate 7 0) [-5, 5, 5, 5, -5000, 0]) heats)
    (fun t => HeatModule.all.map (fun m => heatSum 1 heats t m) == [-1, 250000001, 250000000, 1, 0, 1000]
      && HeatModule.all.map (fun m => (t.heat.modules.get m).stored) == [0, 250000000, 250000000, 0, 0, 1000]
      && t.link.alarms &&& 0x600 == 0x600) = true := by decide +kernel
/-- MANUAL with every entry disabled, C1 STARTING, C2 STOPPING and E1 RUNNING. -/
def reporting : State :=
  withWs { factory with enable := .ofFn (fun _ => 0) }
    (put .e1 .running (put .c2 .stopping (put .c1 .starting (at61 .manual base))))
theorem witness_AcceptedScan_trains : OnlyReportsMoveTrains reporting ∧
    (reporting.seq.trains.get .c1).state = .starting ∧ (reporting.seq.trains.get .c2).state = .stopping ∧
    after .scan (field (scanWith 0 [2, 0, 0, 0, 2, 0, 0] (List.replicate 6 0)) reporting)
      (fun t => (t.meas.table.report.c1.value, t.meas.table.report.c2.value) == (.online, .stopped)
        && (t.seq.trains.c1.state, t.seq.trains.c2.state) == (.running, .warm)) = true :=
  ⟨⟨rfl, fun e _ => by cases e with | moduleHot m => cases m <;> rfl | trainFault x => cases x <;> rfl | _ => rfl,
    fun sd => by cases sd <;> rfl, by decide +kernel⟩, rfl, rfl, by decide +kernel⟩
/-- R129: the window counts of a RUNNING train one short of window_scans, at it, and inside its window. -/
theorem witness_AcceptedScan_window :
    let s := fun (n : Nat) (limit : Int) => withWs { reporting.ws with windowLimit := .ofFn (fun _ => limit) }
      (setTrain .e1 { reporting.seq.trains.e1 with windowCount := n } reporting)
    let f := scanWith 0 [1, 1, 0, 0, 2, 0, 0] (List.replicate 6 0)
    after .scan (field f (s 8 6099)) (fun t => (t.seq.trains.e1.state, t.seq.trains.e1.windowCount) == (.running, 9)) = true ∧
    after .scan (field f (s 9 6099)) (fun t => t.seq.trains.e1.state == .stopping) = true ∧
    after .scan (field f (s 9 6100)) (fun t => (t.seq.trains.e1.state, t.seq.trains.e1.windowCount) == (.running, 0)) = true := by
  decide +kernel
/-- R143 to R147: a publication trips CAV_HIGH at its delay, with one record, and evaluates no rate where none exists. (The
entry blocks no side here: a change of the permits is published in an order that is free.) -/
theorem witness_AcceptedScan_entries : after .scan (field (scanWith 0 (List.replicate 7 0) (List.replicate 6 0))
      (withWs { factory with
          threshold := { factory.threshold with cavHigh := 6099 }, action := { factory.action with cavHigh := 0 } }
        (setEntryRec .cavHigh ⟨.pending, 4, 0, 0, none⟩ (at61 .operate base))))
    (fun t => t.prot.entries.cavHigh == ⟨.tripped, 0, 1, 0, some 6100⟩ && t.prot.seqCounter == 1
      && quantity t .cavRiseRate == none && t.prot.entries.cavRiseRate == .powerOn && t.permits == .both true) = true := by
  decide +kernel
/-- R54, R143: the protection unit reads NO_HEAT_SINK as it was last handed. -/
theorem test_sink_handed : quantity { base with heat := { base.heat with noHeatSink := true } } .noHeatSink = some 0 ∧
    quantity (handSink { base with heat := { base.heat with noHeatSink := true } }) .noHeatSink = some 1 := by decide +kernel
/-- R124: the retry of a pending start and the evaluation after it send the LOAD of a train just RUNNING once. -/
theorem test_load_once :
    let s := put .c1 .starting (at61 .operate base)
    after .scan (field (scanWith 0 [2, 0, 0, 0, 0, 0, 0] (List.replicate 6 0))
        (setSide .charge { s.seq.sides.charge with target := 300, pendingStart := true } s))
      (fun t => (t.link.fieldTx.filter (fun f => f.body.take 2 == [0, 2])).length == 1
        && t.seq.trains.c2.state == .starting) = true := by decide +kernel
theorem witness_OldScan_same :
    let s := lastScan (some 0) (field (scanFrame 0 0 0 0) base)
    running s = true ∧ s.meas.lastScan = some 0 ∧ (scanOf (scanFrame 0 0 0 0).body).number = 0 :=
  ⟨rfl, rfl, by decide +kernel⟩
theorem witness_OldScan_far :
    let s := lastScan (some 0x7FFF) (field (scanFrame 0 0 0 0) base)
    running s = true ∧ s.link.queue.field = scanFrame 0 0 0 0 :: [] ∧ s.meas.lastScan = some 0x7FFF ∧
      ((scanOf (scanFrame 0 0 0 0).body).number - 0x7FFF).toNat = 32769 := ⟨rfl, rfl, rfl, by decide +kernel⟩
theorem witness_AgreeingTransducers :
    let f := scanFrame 0 6000 6040 6020
    let s := lastScan (some 0x8000) (field f base)
    running s = true ∧ s.link.queue.field = f :: [] ∧ f.kind = 0x50 ∧ f.body.length = 81 ∧
      ((scanOf f.body).number - 0x8000).toNat = 32768 ∧ s.meas.lastScan = some 0x8000 ∧ s.ws.combineMode = 0 ∧
      (∀ p, (s.meas.transducers.get p).state = .good) ∧
      (scanOf f.body).p = ⟨some 6000, some 6040, some 6020⟩ ∧ ((6000 : Int) - 6040).natAbs ≤ base.ws.devThreshold ∧
      ((6040 : Int) - 6020).natAbs ≤ base.ws.devThreshold ∧ ((6000 : Int) - 6020).natAbs ≤ base.ws.devThreshold :=
  ⟨rfl, rfl, rfl, by decide +kernel, by decide +kernel, rfl, rfl, fun p => by cases p <;> rfl, by decide +kernel,
    by decide, by decide, by decide⟩
/-- A base state with the transducers, the combine mode and the previous validated pressure given, and a first scan. -/
def judged (mode previous : Int) (recs : PerTransducer TransducerRec) (a b c : Int) : State :=
  field (scanFrame 0 a b c) (withWs { base.ws with combineMode := mode } { base with meas := { base.meas with
    transducers := recs, table := { base.meas.table with pressure := ⟨previous, .good⟩ } } })

/-- The transducer states and run counters and the pressure that a scan leaves. -/
def verdict (t : State) : List (TransducerState × Nat) × Measured Int :=
  ([t.meas.transducers.p1, t.meas.transducers.p2, t.meas.transducers.p3].map (fun x => (x.state, x.run)),
    t.meas.table.pressure)

/-- R13, R14: two GOOD 42 apart (dev_threshold 40) at the same distance from the previous pressure count against the
higher-numbered, which turns SUSPECT on its fifth scan; 40 apart they agree. The pressure is DEGRADED, or the mean. -/
theorem witness_Transducers_tie :
    let s := fun (b previous : Int) => judged 0 previous ⟨⟨.good, 3, none⟩, ⟨.good, 4, none⟩, ⟨.suspect, 7, none⟩⟩ 6000 b 6060
    (s 6042 6021).ws.devThreshold = 40 ∧ (s 6042 6021).ws.suspectCount = 5 ∧
    after .scan (s 6042 6021) (fun t => verdict t == ([(.good, 0), (.suspect, 0), (.suspect, 0)], ⟨6000, .degraded⟩)
      && t.link.alarms &&& 0x0020 == 0x0020 && t.meas.pressSensors) = true ∧
    after .scan (s 6042 6022) (fun t => verdict t == ([(.good, 4), (.good, 0), (.suspect, 0)], ⟨6021, .substituted⟩)) = true ∧
    after .scan (s 6040 6021) (fun t => verdict t == ([(.good, 0), (.good, 0), (.suspect, 0)], ⟨6020, .substituted⟩)) = true := by
  decide +kernel
/-- R12, R14: a SUSPECT transducer half of dev_threshold from the reference counts and returns at good_count; MEAN of three is
rounded down; no GOOD reading keeps the pressure, HELD. -/
theorem witness_Transducers_mean :
    let two := fun (c : Int) => judged 1 0 ⟨⟨.good, 0, none⟩, ⟨.good, 0, none⟩, ⟨.suspect, 24, none⟩⟩ 6000 6000 c
    after .scan (two 6020) (fun t => verdict t == ([(.good, 0), (.good, 0), (.good, 0)], ⟨6006, .good⟩)) = true ∧
    after .scan (two 6021) (fun t => verdict t == ([(.good, 0), (.good, 0), (.suspect, 0)], ⟨6000, .substituted⟩)) = true ∧
    after .scan (judged 0 5000 ⟨⟨.suspect, 0, none⟩, ⟨.suspect, 0, none⟩, ⟨.good, 0, none⟩⟩ 6000 6000 65535)
      (fun t => verdict t == ([(.suspect, 0), (.suspect, 0), (.good, 1)], ⟨5000, .held⟩)) = true := by decide +kernel
theorem witness_Transducer_suspect :
    let s := { base with meas := { base.meas with transducers := ⟨⟨.good, 4, none⟩, ⟨.good, 0, none⟩, ⟨.good, 0, none⟩⟩ } }
    running s = true ∧ (s.meas.transducers.get .p1).state = .good ∧
      s.ws.suspectCount ≤ (s.meas.transducers.get .p1).run + 1 := ⟨rfl, rfl, by decide⟩
theorem witness_Transducer_good :
    let s := { base with meas := { base.meas with transducers := ⟨⟨.suspect, 24, none⟩, ⟨.good, 0, none⟩, ⟨.good, 0, none⟩⟩ } }
    running s = true ∧ (s.meas.transducers.get .p1).state = .suspect ∧
      s.ws.goodCount ≤ (s.meas.transducers.get .p1).run + 1 := ⟨rfl, rfl, by decide⟩
theorem witness_FieldLoss :
    let s := { lastScan (some 9) base with meas := { (lastScan (some 9) base).meas with markCount := 3 } }
    running s = true ∧ s.meas.fieldLoss = false ∧ s.ws.fieldLossMarks ≤ s.meas.markCount + 1 := ⟨rfl, rfl, by decide⟩

/-- The factory settings are within the bounds of 2.7. -/
theorem witness_FlowBounds : FlowBounds factory := by unfold FlowBounds; decide +kernel
theorem witness_Clips : FlowBounds factory ∧ (0 : Int) ≤ 4000 ∧ ∀ t, 0 ≤ factory.rating.get t :=
  ⟨witness_FlowBounds, by decide, fun t => by cases t <;> decide⟩
theorem witness_ClippedInterval : FlowBounds factory ∧ factory.pWl ≤ 4800 ∧ 4800 ≤ factory.pWh ∧ factory.pWl ≤ 7000 ∧
    7000 ≤ factory.pWh := ⟨witness_FlowBounds, by decide, by decide, by decide, by decide⟩

/-- A run in flight in OPERATE, with a staging slot and one entry. -/
def inFlight : State :=
  let s := at61 .operate base
  startRun { s with
    clock := { s.clock with interval := 7, staging := some (slotOf 8 0 0 0 none) }
    book := { s.book with entries := [putEntry ⟨9, 100, 0, 0, none⟩ 0] } }

theorem witness_RunCompletion : running inFlight = true ∧ inFlight.mode ≠ .setup ∧ inFlight.proj.run.isSome = true ∧
    inFlight.clock.staging.isSome = true ∧ inFlight.proj.run.map (·.copy.interval) = some inFlight.clock.interval ∧
    (inFlight.proj.run.bind (·.staging)).isSome = true := by decide +kernel
/-- R61, R90: the run is published; its result reaches the entry, which no put has touched since. -/
theorem test_run_publishes : after .projectionRunComplete inFlight (fun t => t.proj.counter == 1 && t.proj.run.isNone
    && t.book.entries.map (·.feas.status) == [.firm]) = true := by decide +kernel
/-- R93: the run in flight as it stands with the results given for staging and for the entry of interval 9, in interval 7. -/
def flying (staged booked : Feasibility) (ahead : Int) : State :=
  { inFlight with proj := { inFlight.proj with run := inFlight.proj.run.map (fun r => { r with
    staging := some ⟨8, 0, staged⟩, book := [⟨9, 0, booked⟩]
    copy := { r.copy with ws := { r.copy.ws with shortLookahead := ahead } } }) } }
/-- R93: a SHORT result at distance 2 raises SHORT_AHEAD under a lookahead of 2 and not under one of 1; the staging slot is
at 1; an UNBACKED one raises UNBACKED_RESERVE at any distance. -/
theorem witness_RunCompletion_alarms :
    let firm : Feasibility := { pendingFeas with status := .firm }
    let alarms := fun (s : State) (a : Word16) =>
      after .projectionRunComplete s (fun t => t.link.alarms &&& 0x000C == a)
    alarms (flying firm { firm with status := .short } 2) 0x0004 = true ∧
    alarms (flying firm { firm with status := .short, reserve := .unbacked } 1) 0x0008 = true ∧
    alarms (flying { firm with status := .short } firm 1) 0x0004 = true ∧ alarms (flying firm firm 16) 0 = true := by
  decide +kernel

theorem witness_BalanceUpdate :
    let s := { base with heat := { base.heat with balanceCount := 24 } }
    running s = true ∧ s.ws.balancePeriod ≤ s.heat.balanceCount + 1 := ⟨rfl, by decide⟩
theorem witness_Renormalised : HeatModule.all.Nodup ∧ HeatModule.all ≠ [] ∧ (0 : Int) ≤ 166 ∧ 6 * (166 : Int) ≤ 1000 := by
  decide
theorem witness_ModuleService_out :
    Asked 0x28 ⟨0x28, 7, [BitVec.ofNat 8 (moduleCode .h6 + 1), 1]⟩ (ask 0x28 [6, 1] base) ∧
      (base.heat.modules.get .h6).inService = true := ⟨ask_asked _ _ _ rfl, rfl⟩
theorem witness_ModuleService_held :
    Asked 0x28 ⟨0x28, 7, [BitVec.ofNat 8 (moduleCode .h1 + 1), 0]⟩ (ask 0x28 [1, 0] base) ∧
      (base.heat.modules.get .h1).inService = ((0 : Byte) == 0) := ⟨ask_asked _ _ _ rfl, rfl⟩
theorem witness_HeatPreset :
    let b : List Byte := [6] ++ be4 250000000
    Asked 0x29 ⟨0x29, 7, b⟩ (ask 0x29 b base) ∧ base.mode = .setup ∧ b.length = 5 ∧ byteAt b 0 = moduleCode .h6 + 1 ∧
      0 < base.ws.capacity.get .h6 ∧ u32At b 1 ≤ base.ws.capacity.get .h6 :=
  ⟨ask_asked _ _ _ rfl, rfl, by decide +kernel, by decide +kernel, by decide, by decide +kernel⟩
theorem witness_HeatStays :
    let s := { base with heat := { base.heat with modules := { base.heat.modules with h2 :=
      { ModuleRec.powerOn with stored := 250000000, known := true } } } }
    HeatWithinCapacity s ∧ (s.heat.modules.get .h2).known = true ∧ step s = .next s :=
  ⟨fun m => by cases m <;> decide +kernel, rfl, rfl⟩

/-- SETUP with the time valid at an interval, and a book. -/
def booked (n : Word32) (es : List Entry) : State :=
  { base with
    clock := { base.clock with timeValid := true, interval := n }
    book := { base.book with entries := es } }

/-- The bytes of a put of interval 9, charge 4000, lead 65535, with the reserve part given. -/
def putBytes (r : List Byte) : List Byte := be4 9 ++ be2 4000 ++ be2 0 ++ be2 65535 ++ r

/-- The put those bytes carry, with the largest bands. -/
def fullPut : PutForm := ⟨9, 4000, 0, 65535, some ⟨1000, 1000, 3600⟩⟩

theorem witness_AcceptedPut_insert :
    let b := putBytes ([1] ++ be2 1000 ++ be2 1000 ++ be2 3600)
    let s := booked 7 []
    Asked 0x10 ⟨0x10, 7, b⟩ (ask 0x10 b s) ∧ putOf b = some fullPut ∧ s.clock.timeValid = true ∧
      2 ≤ (fullPut.interval - s.clock.interval).toNat ∧ (fullPut.interval - s.clock.interval).toNat ≤ 192 ∧
      s.book.entries.length < 96 ∧ (0 ≤ fullPut.charge ∧ fullPut.charge ≤ 4000) ∧
      (0 ≤ fullPut.discharge ∧ fullPut.discharge ≤ 4000) ∧ ∀ r, fullPut.reserve = some r →
        (0 ≤ r.up ∧ r.up ≤ 1000) ∧ (0 ≤ r.down ∧ r.down ≤ 1000) ∧ 60 ≤ r.sustain ∧ r.sustain ≤ 3600 := by
  refine ⟨ask_asked _ _ _ rfl, by decide +kernel, rfl, by decide, by decide, by decide, by decide, by decide, ?_⟩
  intro r h
  cases h
  decide
theorem witness_AcceptedPut_replace :
    let b := putBytes ([1] ++ be2 1000 ++ be2 1000 ++ be2 3600)
    let s := booked (9 - 192) [putEntry ⟨9, 1, 1, 1, none⟩ 255]
    Asked 0x10 ⟨0x10, 7, b⟩ (ask 0x10 b s) ∧ putOf b = some fullPut ∧ s.clock.timeValid = true ∧
      (∃ e ∈ s.book.entries, e.put.interval = fullPut.interval) ∧
      (fullPut.interval - s.clock.interval).toNat = 192 :=
  ⟨ask_asked _ _ _ rfl, by decide +kernel, rfl, ⟨_, List.mem_singleton.mpr rfl, rfl⟩, by decide⟩
/-- R60: revision 255 is followed by 0; R63: a lead above L − 1 is stored as L − 1 and answered OK_CLAMPED. -/
theorem test_put_replaces : after .entryPut
    (ask 0x10 (putBytes [0, 0, 0, 0, 0, 0, 0]) (booked 7 [putEntry ⟨9, 1, 1, 1, none⟩ 255]))
    (fun t => lastReply t == [1, 0, 0, 0, 9, 0, 0, 1] && t.book.entries.map (fun e => (e.put.lead, e.revision)) == [(1799, 0)])
    = true := by decide +kernel
theorem witness_EntryDrop : Asked 0x11 ⟨0x11, 7, [0, 0, 0, 9]⟩ (ask 0x11 [0, 0, 0, 9] base) := ask_asked _ _ _ rfl
/-- R58: the refusals by position at distances 1, 2, 192, 193, 2 147 483 648 and one more. -/
theorem test_positions : [1, 2, 192, 193, 0x80000000, 0x80000001].map (positionRefusal 0)
    = [some .late, none, none, some .outOfHorizon, some .outOfHorizon, some .late] := by decide +kernel
theorem witness_GroupOpen_free : Asked 0x12 ⟨0x12, 7, []⟩ (ask 0x12 [] base) ∧ base.book.groups.get .g1 = none ∧
    ∀ h, groupNumber h < groupNumber .g1 → base.book.groups.get h ≠ none :=
  ⟨ask_asked _ _ _ rfl, rfl, fun h => by cases h <;> decide⟩
theorem witness_GroupOpen_none :
    let s := { base with book := { base.book with groups := ⟨some [], some [], some [], some []⟩ } }
    Asked 0x12 ⟨0x12, 7, []⟩ (ask 0x12 [] s) ∧ ∀ g, s.book.groups.get g ≠ none :=
  ⟨ask_asked _ _ _ rfl, fun g => by cases g <;> decide⟩

/-- Group 4 OPEN with the changes given. -/
def grouped (cs : List Change) (s : State) : State :=
  { s with book := { s.book with groups := { s.book.groups with g4 := some cs } } }

theorem witness_Groups_drop :
    let s := grouped (List.replicate 15 (.drop 9)) base
    let b : List Byte := [BitVec.ofNat 8 (groupNumber .g4), 1] ++ be4 (9 : Word32).toNat
    s.book.groups.get .g4 = some (List.replicate 15 (.drop 9)) ∧ Asked 0x13 ⟨0x13, 7, b⟩ (ask 0x13 b s) :=
  ⟨rfl, ask_asked _ _ _ rfl⟩
theorem witness_Groups_put : putOf (putBytes [0, 0, 0, 0, 0, 0, 0]) = some ⟨9, 4000, 0, 65535, none⟩ ∧
    putInRange ⟨9, 4000, 0, 65535, none⟩ = true ∧
    Asked 0x13 ⟨0x13, 7, [4, 0] ++ putBytes [0, 0, 0, 0, 0, 0, 0]⟩
      (ask 0x13 ([4, 0] ++ putBytes [0, 0, 0, 0, 0, 0, 0]) (grouped [] base)) :=
  ⟨by decide +kernel, by decide, ask_asked _ _ _ rfl⟩
theorem witness_Groups_discard : (grouped [] base).book.groups.get .g4 = some [] ∧
    Asked 0x15 ⟨0x15, 7, [4]⟩ (ask 0x15 [4] (grouped [] base)) := ⟨rfl, ask_asked _ _ _ rfl⟩
theorem witness_GroupLaunch_passes :
    let cs : List Change := [.put ⟨9, 1, 1, 0, none⟩, .drop 9]
    (grouped cs (booked 7 [])).book.groups.get .g4 = some cs ∧ cs ≠ [] ∧
      checkChange true 7 [] (.put ⟨9, 1, 1, 0, none⟩) = none ∧
      checkChange true 7 (applyChange 7 [] (.put ⟨9, 1, 1, 0, none⟩)) (.drop 9) = none ∧
      Asked 0x14 ⟨0x14, 7, [4]⟩ (ask 0x14 [4] (grouped cs (booked 7 []))) :=
  ⟨rfl, by decide, by decide +kernel, by decide +kernel, ask_asked _ _ _ rfl⟩
theorem witness_GroupLaunch_fails :
    let cs : List Change := [.put ⟨9, 1, 1, 0, none⟩, .drop 8]
    Asked 0x14 ⟨0x14, 7, [4]⟩ (ask 0x14 [4] (grouped cs (booked 7 []))) ∧ cs[1]? = some (.drop 8) ∧
      checkChange true 7 (applyChange 7 [] (.put ⟨9, 1, 1, 0, none⟩)) (.drop 8) = some .late ∧
      checkChange true 7 [] (.put ⟨9, 1, 1, 0, none⟩) = none :=
  ⟨ask_asked _ _ _ rfl, rfl, by decide +kernel, by decide +kernel⟩
theorem witness_GroupLaunch_empty : (grouped [] base).book.groups.get .g4 = some [] ∧
    Asked 0x14 ⟨0x14, 7, [4]⟩ (ask 0x14 [4] (grouped [] base)) := ⟨rfl, ask_asked _ _ _ rfl⟩
theorem witness_BookStays :
    let s := booked 7 [putEntry ⟨9, 0, 0, 0, none⟩ 0, putEntry ⟨199, 0, 0, 0, none⟩ 0]
    BookInHorizon s ∧ step s = .next s := by
  refine ⟨⟨by decide, ?_, ?_, nofun⟩, rfl⟩
  · decide +kernel
  · decide +kernel

theorem witness_Mark : running base = true ∧ base.clock.timeValid = false ∧ base.meas.fieldLoss = true := ⟨rfl, rfl, rfl⟩
/-- R97: the mark before the boundary, the boundary itself, and a mark while the time is invalid. -/
theorem test_marks :
    after .mark { booked 7 [] with clock := { (booked 7 []).clock with mark := 1798 } }
      (fun t => t.clock.interval == 7 && t.clock.mark == 1799) = true ∧
    after .mark { booked 7 [] with clock := { (booked 7 []).clock with mark := 1799 } }
      (fun t => t.clock.interval == 8 && t.clock.mark == 0) = true ∧
    after .mark base (fun t => t.clock == base.clock) = true := by decide +kernel
/-- R5: the mark that reaches field_loss_marks begins field loss, and FIELD_LOSS is evaluated on it. -/
theorem witness_Mark_loss :
    let s := { lastScan (some 9) base with meas := { (lastScan (some 9) base).meas with markCount := 3 } }
    s.meas.fieldLoss = false ∧ s.ws.fieldLossMarks ≤ (s.meas.markCount + 1 : Int) ∧
      after .mark s (fun t => t.meas.fieldLoss && t.meas.markCount == 4 && t.prot.entries.fieldLoss.state == .pending)
        = true := ⟨rfl, by decide, by decide +kernel⟩
/-- OPERATE at mark 1678 of an interval, staging with a lead of 120, and the ramp given. -/
def ramping (r : Ramp) (lead : Int) : State :=
  let s := at61 .operate base
  { s with clock := { s.clock with
      interval := 7, mark := 1679, ramp := r, dispatch := ⟨300, 0⟩, active := some (slotOf 7 300 0 0 none)
      staging := some (slotOf 8 480 0 lead none) } }
/-- R105, R106, R110: an interval ramp starts at mark L − 120 on its first value; one under way has gone its share; a rejoin
ramp ends when it has run its marks and not one mark before; with no ramp the targets are the active ones. -/
theorem witness_Mark_ramps :
    after .mark (ramping .off 120) (fun t => t.clock.ramp == ⟨.interval, 1680, 120, ⟨300, 0⟩⟩ && t.clock.dispatch == ⟨300, 0⟩)
      = true ∧
    after .mark (ramping .off 119) (fun t => t.clock.ramp == .off && t.clock.dispatch == ⟨300, 0⟩) = true ∧
    after .mark (ramping ⟨.interval, 1669, 120, ⟨300, 0⟩⟩ 131) (fun t => t.clock.dispatch == ⟨316, 0⟩) = true ∧
    after .mark (ramping ⟨.rejoin, 1440, 240, ⟨0, 0⟩⟩ 0) (fun t => t.clock.ramp.kind == .none
      && t.clock.dispatch == ⟨300, 0⟩) = true ∧
    after .mark (ramping ⟨.rejoin, 1441, 240, ⟨0, 0⟩⟩ 0) (fun t => t.clock.ramp.kind == .rejoin
      && t.clock.dispatch == ⟨298, 0⟩) = true := by decide +kernel
/-- R118, R121: the timers of STARTING and STOPPING trains one short of their limits and at them. -/
theorem witness_Mark_timers :
    let s := fun (a b : Nat) => setTrain .c1 { TrainRec.powerOn with state := .starting, timer := a, startLimit := 1200 }
      (setTrain .e1 { TrainRec.powerOn with state := .stopping, timer := b } (put .c1 .starting (at61 .manual base)))
    ListsHoldTheirTrains (s 1199 599) ∧
    after .mark (s 1198 598) (fun t => (t.seq.trains.c1.state, t.seq.trains.c1.timer) == (.starting, 1199)
      && (t.seq.trains.e1.state, t.seq.trains.e1.timer) == (.stopping, 599)) = true ∧
    after .mark (s 1199 599) (fun t => (t.seq.trains.c1.state, t.seq.trains.c1.cause) == (.tripped, .startTimeout)
      && (t.seq.trains.e1.state, t.seq.trains.e1.cause) == (.tripped, .stopTimeout)) = true :=
  ⟨lists_of _ (by decide +kernel), by decide +kernel, by decide +kernel⟩
/-- MANUAL with FIELD_LOSS disabled, a charge shortfall of 10 and the count given, at a mark inside the interval. -/
def short (count : Nat) : State :=
  let s := withWs { factory with enable := { factory.enable with fieldLoss := 0 } }
    (setRecord ⟨⟨10, 0, 10, 0, count⟩, ⟨0, 0, 0, 0, 3⟩⟩ (at61 .manual base))
  { s with clock := { s.clock with manual := ⟨10, 0⟩ } }
/-- R114: the shortfall count one short of shortfall_marks and at it; a side without a shortfall counts 0. -/
theorem witness_Mark_counts : NothingElseOnTheMark (short 59) ∧ (short 59).clock.timeValid = true ∧
    (short 59).clock.mark + 1 < (short 59).ws.intervalLength ∧ (short 59).mode ≠ .setup ∧
    after .mark (short 58) (fun t => (t.clock.record.charge.count, t.clock.record.discharge.count) == (59, 0)
      && t.clock.record.charge.effective == 10 && t.link.alarms &&& 0x10 == 0) = true ∧
    after .mark (short 59) (fun t => t.clock.record.charge.count == 0 && t.clock.record.charge.effective == 10
      && t.link.alarms &&& 0x10 == 0x10) = true :=
  ⟨⟨rfl, by decide +kernel, fun x _ h => (by cases x <;> cases h), .inl rfl⟩, rfl, by decide, nofun, by decide +kernel,
    by decide +kernel⟩
theorem witness_SetupBoundary :
    let s := { booked 7 [putEntry ⟨9, 0, 0, 0, none⟩ 0] with clock := { (booked 7 []).clock with mark := 1799 } }
    running s = true ∧ s.mode = .setup ∧ s.clock.timeValid = true ∧ s.ws.intervalLength ≤ s.clock.mark + 1 ∧
      base.mode = .setup ∧ base.clock.timeValid = false := ⟨rfl, rfl, rfl, by decide, rfl, rfl⟩

/-- OPERATE at the last mark of interval 7 with a projected staging slot under reserve. -/
def lastMark : State :=
  let s := at61 .operate base
  { s with clock := { s.clock with
    interval := 7, mark := 1799, staging := some (slotOf 8 300 100 0 (some ⟨50, 20, 900⟩)), deployment := 80 } }

theorem witness_BoundaryTurns : running lastMark = true ∧ lastMark.mode ≠ .setup ∧ lastMark.clock.timeValid = true ∧
    lastMark.ws.intervalLength ≤ lastMark.clock.mark + 1 ∧
    lastMark.clock.staging = some (slotOf 8 300 100 0 (some ⟨50, 20, 900⟩)) := by decide +kernel
/-- R101: a PENDING slot is clipped at the boundary; without heat the discharge is cut to 0. -/
theorem witness_BoundaryTurns_pending : after .boundary
    { lastMark with clock := { lastMark.clock with
        staging := some ⟨putEntry ⟨8, 300, 100, 0, none⟩ 0, .book, .projection⟩ } }
    (fun t => t.clock.active.map (fun x => (x.clip, x.entry.feas.status, x.entry.feas.clipped, x.entry.feas.reasons.heat))
      == some (.boundary, .short, ⟨300, 0⟩, true)) = true := by decide +kernel
/-- R100, R102, R103: without an entry for current+1 the policy holds the targets and the deployment is clamped. -/
theorem test_boundary_fills : after .boundary lastMark (fun t => t.clock.deployment == 50 && t.clock.dispatch == ⟨300, 100⟩
    && t.clock.staging.map (fun x => (x.entry.put.interval, x.entry.put.charge, x.source)) == some (9, 300, .policy)
    && t.link.alarms &&& 0x800 == 0x800) = true := by decide +kernel
/-- R71: an entry for current+1 is staged and leaves the book. -/
theorem test_boundary_stages : after .boundary
    { lastMark with book := { lastMark.book with entries := [putEntry ⟨9, 200, 0, 0, none⟩ 3] } }
    (fun t => t.clock.staging.map (fun x => (x.entry.put.charge, x.entry.revision, x.source, x.entry.putSinceRead))
        == some (200, 3, .book, false) && t.book.entries == []) = true := by decide +kernel
/-- R84, R85: an EMPTY staging slot is a gap, whose capacity a low permit does not cut. -/
theorem test_gap_ignores_permits :
    (projectStaging { takeCopy (at61 .operate base) with permits := .both false, activeClipped := ⟨100, 0⟩ }).clipped
      = ⟨100, 0⟩ := by decide +kernel
theorem witness_RejoinRampEnds :
    let s := { lastMark with clock := { lastMark.clock with mark := 339, ramp := ⟨.rejoin, 100, 240, ⟨0, 0⟩⟩ } }
    running s = true ∧ ListsHoldTheirTrains s ∧ s.mode = .operate ∧ s.clock.timeValid = true ∧
      s.clock.mark + 1 < s.ws.intervalLength ∧ s.clock.ramp.kind = .rejoin ∧
      s.clock.ramp.n ≤ s.clock.mark + 1 - s.clock.ramp.s0 ∧
      (slotOf 8 300 100 0 (some ⟨50, 20, 900⟩)).entry.put.lead < 1 :=
  ⟨rfl, lists_of _ (by decide +kernel), rfl, rfl, by decide, rfl, by decide, by decide⟩
/-- OPERATE with an active slot under reserve. -/
def reserved : State :=
  let s := at61 .operate base
  { s with clock := { s.clock with
    active := some (slotOf 7 300 100 0 (some ⟨50, 20, 900⟩)), dispatch := ⟨300, 100⟩ } }

theorem witness_ReserveCall : Asked 0x18 ⟨0x18, 7, be2 100⟩ (ask 0x18 (be2 100) reserved) ∧ (be2 100).length = 2 ∧
    ListsHoldTheirTrains (ask 0x18 (be2 100) reserved) ∧ reserved.mode = .operate ∧
    reserved.clock.active = some (slotOf 7 300 100 0 (some ⟨50, 20, 900⟩)) ∧ (0 : Int) ≤ 50 ∧ (0 : Int) ≤ 20 :=
  ⟨ask_asked _ _ _ rfl, rfl, lists_of _ (by decide +kernel), rfl, rfl, by decide, by decide⟩
/-- R107, R108: a call of 100 is clamped to 50 and lowers the charge; one of -100 is clamped to -20. -/
theorem test_reserve_calls : after .reserveCall (ask 0x18 (be2 100) reserved) (fun t => lastReply t == [1, 0, 50]
      && effectiveNow t.clock == ⟨250, 100⟩) = true ∧
    after .reserveCall (ask 0x18 (be2 (-100)) reserved) (fun t => t.clock.deployment == -20
      && effectiveNow t.clock == ⟨300, 80⟩) = true := by decide +kernel
theorem witness_ManualTarget :
    let b := be2 4000 ++ be2 0
    Asked 0x19 ⟨0x19, 7, b⟩ (ask 0x19 b (at61 .manual base)) ∧ (at61 .manual base).mode = .manual ∧ b.length = 4 ∧
      u16At b 0 ≤ 4000 ∧ u16At b 2 ≤ 4000 :=
  ⟨ask_asked _ _ _ rfl, rfl, rfl, by decide +kernel, by decide +kernel⟩
theorem witness_Undelivered :
    let s := setRecord ⟨⟨10, 0, 10, 0, 59⟩, .zero⟩ (at61 .operate base)
    running s = true ∧ s.mode ≠ .setup ∧ 0 < (s.clock.record.get .charge).shortfall ∧
      s.ws.shortfallMarks ≤ (s.clock.record.get .charge).count + 1 := ⟨rfl, nofun, by decide, by decide⟩
theorem witness_TripCountClear :
    let s := setEntryRec .cavHigh ⟨.normal, 0, 2, 7199, none⟩ base
    running s = true ∧ (s.prot.entries.get .cavHigh).state = .normal ∧
      s.ws.latchClearMarks.get .cavHigh ≤ ((min 65535 (7199 + 1) : Nat) : Int) := ⟨rfl, rfl, by decide⟩

/-- Two RUNNING charge trains in OPERATE, with a target. -/
def pair (target : Int) : State :=
  let s := put .c2 .running (put .c1 .running (at61 .operate base))
  setSide .charge { s.seq.sides.charge with target := target, stopCount := 119 } s

/-- A pressure at a train's window limit and beyond it. -/
def atPressure (p : Int) (s : State) : State :=
  { s with meas := { s.meas with table := { s.meas.table with pressure := ⟨p, .degraded⟩ } } }

/-- A train's record changed. -/
def setRec (t : Train) (f : TrainRec → TrainRec) (s : State) : State := setTrain t (f (s.seq.trains.get t)) s

theorem witness_WindowExit :
    let s := atPressure 7501 (setRec .c1 (fun r => { r with windowCount := 9 }) (pair 200))
    running s = true ∧ ListsHoldTheirTrains s ∧ (s.seq.trains.get .c1).state = .running ∧
      s.meas.table.pressure.quality = .degraded ∧ s.ws.windowLimit.get .c1 < s.meas.table.pressure.value ∧
      s.ws.windowScans ≤ (min 255 ((s.seq.trains.get .c1).windowCount + 1) : Nat) :=
  ⟨rfl, lists_of _ (by decide +kernel), rfl, rfl, by decide, by decide⟩
theorem witness_WindowExit_low : (atPressure 4499 (pair 200)).meas.table.pressure.value < factory.windowBase.get .c1 := by
  decide
theorem witness_StartLimit :
    let s := setRec .c1 (fun r => { r with timer := 1199, startLimit := 1200 }) (put .c1 .starting (at61 .manual base))
    running s = true ∧ ListsHoldTheirTrains s ∧ (s.seq.trains.get .c1).state = .starting ∧
      (s.seq.trains.get .c1).startLimit ≤ ((min 65535 ((s.seq.trains.get .c1).timer + 1) : Nat) : Int) :=
  ⟨rfl, lists_of _ (by decide +kernel), rfl, by decide⟩
theorem witness_StopLimit :
    let s := setRec .c1 (fun r => { r with timer := 599 }) (put .c1 .stopping (at61 .manual base))
    running s = true ∧ ListsHoldTheirTrains s ∧ (s.seq.trains.get .c1).state = .stopping ∧
      s.ws.stopMarks ≤ ((min 65535 ((s.seq.trains.get .c1).timer + 1) : Nat) : Int) :=
  ⟨rfl, lists_of _ (by decide +kernel), rfl, by decide⟩
theorem witness_WarmLimit :
    let s := setRec .c1 (fun r => { r with timer := 3599 }) (put .c1 .warm (at61 .manual base))
    running s = true ∧ ListsHoldTheirTrains s ∧ (s.seq.trains.get .c1).state = .warm ∧
      s.ws.warmHoldMarks ≤ ((min 65535 ((s.seq.trains.get .c1).timer + 1) : Nat) : Int) ∧ s.mode ≠ .operate ∧
      (s.seq.sides.get .charge).pendingStart = false :=
  ⟨rfl, lists_of _ (by decide +kernel), rfl, by decide, nofun, rfl⟩
theorem witness_NewestTrain :
    let s := pair 162
    let x := s.seq.sides.get .charge
    running s = true ∧ ListsHoldTheirTrains s ∧ s.mode = .operate ∧ x.order.getLast? = some .c2 ∧ 2 ≤ x.order.length ∧
      x.target * 1000 ≤ ((x.order.map s.ws.rating.get).sum - s.ws.rating.get .c2) * s.ws.stopPermille ∧
      s.ws.stopDelayMarks ≤ x.stopCount + 1 ∧ ∀ t, t.side = .charge → (s.seq.trains.get t).state ≠ .starting :=
  ⟨rfl, lists_of _ (by decide +kernel), rfl, rfl, by decide, by decide, by decide, fun t => by cases t <;> decide⟩
/-- R127, R133: both lines rise in OPERATE with a charge target of 100; the hand-over starts a train and leaves nothing
pending, whichever of the dispatch clock and the sequencer takes the rise first. -/
theorem test_permit_rise_starts :
    let s := fun (n : Nat) => { at61 .operate base with
      choice := n, permits := .both false, seq := SeqState.powerOn
      clock := { base.clock with timeValid := true, dispatch := ⟨100, 0⟩ } }
    let started := fun (t : State) =>
      t.seq.sides.charge.order.length == 1 && !t.seq.sides.charge.pendingStart && t.seq.sides.charge.permitSeen
    started (publishPermits (.both true) (s 0)) = true ∧ started (publishPermits (.both true) (s 1)) = true := by
  decide +kernel
theorem witness_TrainStart :
    let s := withWs { factory with allowHostStart := 1 } (put .e3 .warm (at61 .manual base))
    Asked 0x20 ⟨0x20, 7, [BitVec.ofNat 8 (trainCode .e3 + 1)]⟩ (ask 0x20 [7] s) ∧ ListsHoldTheirTrains (ask 0x20 [7] s) ∧
      s.mode = .manual ∧ s.ws.allowHostStart = 1 ∧ (s.seq.trains.get .e3).state = .warm ∧
      s.permits.get Train.e3.side = true ∧ s.ws.windowBase.get .e3 ≤ s.meas.table.pressure.value ∧
      s.meas.table.pressure.value ≤ s.ws.windowLimit.get .e3 :=
  ⟨ask_asked _ _ _ rfl, lists_of _ (by decide +kernel), rfl, rfl, rfl, rfl, by decide, by decide⟩
theorem witness_TrainStop :
    let s := ask 0x21 [1] (withWs { factory with allowHostStop := 1 } (pair 200))
    Asked 0x21 ⟨0x21, 7, [BitVec.ofNat 8 (trainCode .c1 + 1)]⟩ s ∧ ListsHoldTheirTrains s ∧ s.mode ≠ .setup ∧
      s.ws.allowHostStop = 1 ∧ (s.seq.trains.get .c1).state = .running :=
  ⟨ask_asked _ _ _ rfl, lists_of _ (by decide +kernel), nofun, rfl, rfl⟩
theorem witness_TrainStop_cold :
    let s := fun m => ask 0x21 [3] (withWs { factory with allowHostStop := 1 } (at61 m base))
    ListsHoldTheirTrains (s .manual) ∧ ((s .manual).seq.trains.get .c3).state = .cold ∧ (s .manual).mode = .manual ∧
      ListsHoldTheirTrains (s .operate) ∧ ((s .operate).seq.trains.get .c3).state = .cold ∧ (s .operate).mode = .operate :=
  ⟨lists_of _ (by decide +kernel), rfl, rfl, lists_of _ (by decide +kernel), rfl, rfl⟩
theorem witness_Lock : Asked 0x22 ⟨0x22, 7, [BitVec.ofNat 8 (trainCode .c1 + 1)]⟩ (ask 0x22 [1] base) ∧
    ListsHoldTheirTrains (ask 0x22 [1] base) ∧ (base.seq.trains.get .c1).state = .cold :=
  ⟨ask_asked _ _ _ rfl, lists_of _ (by decide +kernel), rfl⟩
theorem witness_Unlock :
    let s := ask 0x23 [1] (put .c1 .offline base)
    Asked 0x23 ⟨0x23, 7, [1]⟩ s ∧ ListsHoldTheirTrains s ∧ (s.seq.trains.get .c1).state = .offline ∧
      (s.prot.entries.get (.trainFault .c1)).state = .normal ∧ s.mode ≠ .operate ∧
      (s.seq.sides.get .charge).pendingStart = false :=
  ⟨ask_asked _ _ _ rfl, lists_of _ (by decide +kernel), rfl, rfl, nofun, rfl⟩
theorem witness_Reset :
    let s0 := put .c1 .tripped base
    let s := ask 0x24 [1] { s0 with meas := { s0.meas with table := { s0.meas.table with
      report := .ofFn (fun _ => ⟨.stopped, .held⟩) } } }
    Asked 0x24 ⟨0x24, 7, [1]⟩ s ∧ ListsHoldTheirTrains s ∧ (s.seq.trains.get .c1).state = .tripped ∧
      (s.prot.entries.get (.trainFault .c1)).state = .normal ∧ (s.meas.table.report.get .c1).value = .stopped ∧
      (s.meas.table.report.get .c1).quality = .held :=
  ⟨ask_asked _ _ _ rfl, lists_of _ (by decide +kernel), rfl, rfl, rfl, rfl⟩
theorem witness_Shares : [Train.c1, .c3].Nodup ∧ [Train.c1, .c3] ≠ [] ∧ ∀ t ∈ [Train.c1, .c3],
    0 < factory.rating.get t ∧ 0 ≤ factory.minLoad.get t ∧ factory.minLoad.get t ≤ factory.rating.get t := by decide
/-- R132, steps 1 and 2, at C2, C1, C3 (180, 180, 150; R = 510) and T = 480: base 169, 169, 141, remainder 1 to the oldest.
Here each min load stands at the share before it is raised, so no share is raised and their sum is T. -/
theorem witness_Shares_exact :
    let w : WorkingSet := { factory with minLoad := ⟨169, 170, 141, 60, 80, 80, 60⟩ }
    let run : List Train := [.c2, .c1, .c3]
    let R := (run.map w.rating.get).sum
    let base : Train → Int := fun t => min 480 R * w.rating.get t / R
    let remainder := min 480 R - (run.map base).sum
    run.Nodup ∧ run ≠ [] ∧
      (∀ t ∈ run, 0 < w.rating.get t ∧ 0 ≤ w.minLoad.get t ∧ w.minLoad.get t ≤ w.rating.get t) ∧
      (∀ t ∈ run, w.minLoad.get t ≤ base t + if (run.idxOf t : Int) < remainder then 1 else 0) ∧
      run.map (trainShare w run 480) = [170, 169, 141] := by decide
theorem witness_Lists : ListsHoldTheirTrains (pair 200) ∧ step (pair 200) = .next (pair 200) :=
  ⟨lists_of _ (by decide +kernel), rfl⟩

/-- An entry about to trip, on the fifth true evaluation of a wait. -/
def aboutToTrip (trips : Nat) : State :=
  setEntryRec .cavHigh ⟨.pending, 4, trips, 0, some 7214⟩ (atPressure 7201 (at61 .operate base))

theorem witness_DelayExpiry : running (aboutToTrip 1) = true ∧ ListsHoldTheirTrains (aboutToTrip 1) ∧
    ((aboutToTrip 1).prot.entries.get .cavHigh).state = .pending ∧ entryEnabled (aboutToTrip 1).ws .cavHigh = true ∧
    quantity (aboutToTrip 1) .cavHigh = some 7201 ∧ condition (aboutToTrip 1).ws false .cavHigh 7201 = true ∧
    entryDelay (aboutToTrip 1).ws .cavHigh ≤ ((4 + 1 : Nat) : Int) :=
  ⟨rfl, lists_of _ (by decide +kernel), rfl, rfl, rfl, rfl, by decide⟩
/-- R147: with latch limit 3 the second trip is TRIPPED and the third LATCHED; both drop CHARGE_PERMIT alone (8.2). -/
theorem test_delay_expiry :
    after (.protDelayExpiry .cavHigh) (aboutToTrip 1) (fun t => t.prot.entries.cavHigh.state == .tripped
      && t.permits == ⟨false, true⟩ && t.link.alarms &&& 3 == 1) = true ∧
    after (.protDelayExpiry .cavHigh) (aboutToTrip 2) (fun t => t.prot.entries.cavHigh.state == .latched
      && t.permits == ⟨false, true⟩ && t.link.alarms &&& 3 == 2) = true := by decide +kernel
theorem witness_DelayExpiry_module :
    let s0 := at61 .operate base
    let s := setEntryRec (.moduleHot .h3) ⟨.pending, 9, 0, 0, none⟩ { s0 with meas := { s0.meas with table :=
      { s0.meas.table with top := .ofFn (fun _ => ⟨6201, .good⟩) } } }
    running s = true ∧ ListsHoldTheirTrains s ∧ (s.prot.entries.get (.moduleHot .h3)).state = .pending ∧
      entryEnabled s.ws (.moduleHot .h3) = true ∧ quantity s (.moduleHot .h3) = some 6201 ∧
      condition s.ws false (.moduleHot .h3) 6201 = true ∧ entryDelay s.ws (.moduleHot .h3) ≤ ((9 + 1 : Nat) : Int) ∧
      after (.protDelayExpiry (.moduleHot .h3)) s (fun t => t.heat.modules.h3.role == .isolated) = true :=
  ⟨rfl, lists_of _ (by decide +kernel), rfl, rfl, rfl, rfl, by decide, by decide +kernel⟩
theorem witness_DelayExpiry_train :
    let s0 := put .e1 .running (at61 .operate base)
    let s := setEntryRec (.trainFault .e1) ⟨.pending, 0, 0, 0, none⟩ { s0 with
      ws := { factory with delay := { factory.delay with trainFault := .ofFn (fun _ => 1) } }
      meas := { s0.meas with table := { s0.meas.table with report := .ofFn (fun _ => ⟨.fault, .good⟩) } } }
    running s = true ∧ ListsHoldTheirTrains s ∧ (s.prot.entries.get (.trainFault .e1)).state = .pending ∧
      entryEnabled s.ws (.trainFault .e1) = true ∧ quantity s (.trainFault .e1) = some 1 ∧
      condition s.ws false (.trainFault .e1) 1 = true ∧
      entryDelay s.ws (.trainFault .e1) ≤ ((0 + 1 : Nat) : Int) ∧ (s.seq.trains.get .e1).state ≠ .offline ∧
      after (.protDelayExpiry (.trainFault .e1)) s (fun t => t.seq.trains.e1.state == .tripped
        && t.seq.trains.e1.cause == .fieldFault) = true :=
  ⟨rfl, lists_of _ (by decide +kernel), rfl, rfl, rfl, rfl, by decide, nofun, by decide +kernel⟩
theorem witness_RecoveryDelay :
    let s := setEntryRec .cavHigh ⟨.recovering, 9, 1, 0, some 7150⟩ (atPressure 7150 (at61 .operate base))
    running s = true ∧ (s.prot.entries.get .cavHigh).state = .recovering ∧ entryEnabled s.ws .cavHigh = true ∧
      quantity s .cavHigh = some 7150 ∧ recovery s.ws false .cavHigh 7150 = true ∧
      entryRecoveryDelay s.ws .cavHigh ≤ ((9 + 1 : Nat) : Int) := ⟨rfl, rfl, rfl, rfl, rfl, by decide⟩
theorem witness_RecoveryDelay_module :
    let s0 := setEntryRec (.moduleHot .h1) ⟨.recovering, 24, 1, 0, none⟩ (setModule .h1 { ModuleRec.powerOn with role := .isolated } base)
    running s0 = true ∧ quantity s0 (.moduleHot .h1) = some 0 ∧ recovery s0.ws false (.moduleHot .h1) 0 = true ∧
      after (.protRecoveryDelayExpiry (.moduleHot .h1)) s0 (fun t => t.heat.modules.h1.role == .idle) = true :=
  ⟨rfl, rfl, rfl, by decide +kernel⟩
theorem witness_Recover :
    let s := ask 0x2C [1, 1] (setEntryRec .cavHigh ⟨.latched, 0, 3, 0, some 7150⟩ base)
    let es := [ProtEntry.cavHigh]
    Asked 0x2C ⟨0x2C, 7, BitVec.ofNat 8 es.length :: es.map (fun e => BitVec.ofNat 8 (entryNumber e))⟩ s ∧
      s.mode = .setup ∧ judgedValue s .cavHigh = some 7150 ∧ recovery s.ws false .cavHigh 7150 = true :=
  ⟨ask_asked _ _ _ rfl, rfl, rfl, rfl⟩
/-- R155: the entry recovered, and one whose last value is 7151 listed as still LATCHED. -/
theorem test_recover : after .protRecover (ask 0x2C [1, 1] (setEntryRec .cavHigh ⟨.latched, 0, 3, 0, some 7150⟩ base))
      (fun t => lastReply t == [0, 0] && t.prot.entries.cavHigh == ⟨.normal, 0, 0, 0, some 7150⟩) = true ∧
    after .protRecover (ask 0x2C [1, 1] (setEntryRec .cavHigh ⟨.latched, 0, 3, 0, some 7151⟩ base))
      (fun t => lastReply t == [0, 1, 1]) = true := by decide +kernel
theorem witness_Latched : ((setEntryRec .esd ⟨.latched, 0, 1, 0, some 1⟩ base).prot.entries.get .esd).state = .latched ∧
    Instr.mark ≠ .protRecover ∧ Instr.mark ≠ .powerOn ∧ Instr.mark ≠ .resetInRise := ⟨rfl, nofun, nofun, nofun⟩
theorem witness_Permits : PermitsFollowTheTable (at61 .operate base) ∧ step (at61 .operate base) = .next (at61 .operate base) :=
  ⟨by unfold PermitsFollowTheTable; decide +kernel, rfl⟩

/-- The factory defaults lie within their write ranges (the settings tables). -/
theorem factory_in_range (x : Setting) : rangeOk factory x (settingGet factory x) ≠ some false := by
  cases x with
  | rotation sd ph => cases sd <;> revert ph <;> decide +kernel
  | capacity m => cases m <;> decide
  | rating t | minLoad t | windowBase t | windowLimit t => cases t <;> decide
  | enable e | threshold e | hysteresis e | delay e | recoveryDelay e | latchLimit e | latchClearMarks e | action e =>
    cases e with
    | moduleHot m => cases m <;> decide
    | trainFault t => cases t <;> decide
    | _ => decide
  | _ => decide
theorem witness_EntersOperate :
    let s := ask 0x34 [1] (booked 7 [])
    Asked 0x34 ⟨0x34, 7, [1]⟩ s ∧ s.mode = .setup ∧ s.clock.timeValid = true ∧
      (∀ n, 1 ≤ n → n ≤ 6 → OperateCheck s.ws n) ∧ ∀ x, rangeOk s.ws x (settingGet s.ws x) ≠ some false := by
  refine ⟨ask_asked _ _ _ rfl, rfl, rfl, fun n _ _ => ?_, factory_in_range⟩
  refine ⟨fun _ => by decide, fun _ => by decide, fun _ => by decide, fun _ => witness_FlowBounds.2.2.2.1,
    fun _ => by decide, fun _ => by decide⟩
/-- R158, R159: the time invalid; the first check that fails, at the edge of check 2; and a setting out of its range. -/
theorem test_bad_config :
    after .modeSet (ask 0x34 [1] base) (fun t => lastReply t == [6]) = true ∧
    after .modeSet (ask 0x34 [1] (withWs { factory with pWh := 4899, stiffness := 63 } (booked 7 [])))
      (fun t => lastReply t == [17, 2]) = true ∧
    after .modeSet (ask 0x34 [1] (withWs { factory with gapAlarm := 256, delay := .ofFn (fun _ => 256) } (booked 7 [])))
      (fun t => lastReply t == [17, 7, 2, 0]) = true := by decide +kernel
theorem witness_BadConfig_check : ¬ OperateCheck { factory with pWh := 4899 } 2 ∧
    (∀ k, 1 ≤ k → k < 2 → OperateCheck { factory with pWh := 4899 } k) := by
  refine ⟨fun h => absurd (h.2.1 rfl) (by decide), fun k _ _ => ?_⟩
  exact ⟨fun _ => by decide, by omega, by omega, by omega, by omega, by omega⟩
theorem witness_BadConfig_setting : settingOf 2 0 = some .gapAlarm ∧
    rangeOk { factory with gapAlarm := 256 } .gapAlarm 256 = some false ∧
    ∀ (m i : Nat) (y : Setting), settingOf m i = some y → m < 2 ∨ (m = 2 ∧ i < 0) →
      rangeOk { factory with gapAlarm := 256 } y (settingGet { factory with gapAlarm := 256 } y) ≠ some false := by
  refine ⟨rfl, rfl, fun m i y h hm => ?_⟩
  obtain rfl | rfl : m = 0 ∨ m = 1 := by omega
  · cases h
  · simp only [settingOf, oneItem] at h
    split at h
    · cases h; decide
    · cases h
/-- R160: both permits go high, the active slot is zero and a run is in flight. -/
theorem test_enters_operate : after .modeSet (ask 0x34 [1] (booked 7 [])) (fun t => lastReply t == [0] && t.mode == .operate
    && t.permits == ⟨true, true⟩ && t.proj.run.isSome && t.clock.active.map (·.entry.put.charge) == some 0) = true := by
  decide +kernel
theorem witness_LeavesMode_manual : Asked 0x34 ⟨0x34, 7, [2]⟩ (ask 0x34 [2] (pair 200)) ∧
    ListsHoldTheirTrains (ask 0x34 [2] (pair 200)) ∧ (pair 200).mode = .operate :=
  ⟨ask_asked _ _ _ rfl, lists_of _ (by decide +kernel), rfl⟩
theorem witness_LeavesMode_return :
    let s := fun (lead mark : Int) => ask 0x34 [1] { at61 .manual base with clock := { (at61 .manual base).clock with
      mark := mark, staging := some (slotOf 8 0 0 lead none) } }
    Asked 0x34 ⟨0x34, 7, [1]⟩ (s 120 1680) ∧ ListsHoldTheirTrains (s 120 1680) ∧ (s 120 1680).mode = .manual ∧
      (s 120 1680).ws.intervalLength - 120 ≤ (s 120 1680).clock.mark ∧
      ¬ (s 120 1679).ws.intervalLength - 120 ≤ (s 120 1679).clock.mark ∧ (s 120 1679).ws.rejoinLead ≠ 0 :=
  ⟨ask_asked _ _ _ rfl, lists_of _ (by decide +kernel), rfl, by decide, by decide, by decide⟩
theorem witness_LeavesMode_busy : (∃ x, ((pair 200).seq.trains.get x).state = .starting ∨
    ((pair 200).seq.trains.get x).state = .running ∨ ((pair 200).seq.trains.get x).state = .stopping) ∧
    Asked 0x34 ⟨0x34, 7, [0]⟩ (ask 0x34 [0] (pair 200)) := ⟨⟨.c1, .inr (.inl rfl)⟩, ask_asked _ _ _ rfl⟩
theorem witness_LeavesMode_setup :
    let s := ask 0x34 [0] (at61 .operate base)
    Asked 0x34 ⟨0x34, 7, [0]⟩ s ∧ ListsHoldTheirTrains s ∧ s.mode ≠ .setup ∧
      ¬ ∃ x, (s.seq.trains.get x).state = .starting ∨ (s.seq.trains.get x).state = .running ∨
        (s.seq.trains.get x).state = .stopping :=
  ⟨ask_asked _ _ _ rfl, lists_of _ (by decide +kernel), nofun, fun ⟨x, h⟩ => by cases x <;> revert h <;> decide⟩
theorem witness_TimeSet :
    let b := be4 7 ++ be2 1799
    Asked 0x35 ⟨0x35, 7, b⟩ (ask 0x35 b base) ∧ b.length = 6 ∧ base.mode = .setup ∧ u16At b 4 < base.ws.intervalLength :=
  ⟨ask_asked _ _ _ rfl, rfl, rfl, by decide +kernel⟩
/-- R74, R165: the entry left at distance 1 is removed and counted in the reply. -/
theorem test_time_set : after .timeSet (ask 0x35 (be4 8 ++ be2 1799) (booked 7 [putEntry ⟨9, 0, 0, 0, none⟩ 0]))
    (fun t => lastReply t == [0, 0, 0, 0, 8, 7, 7, 1] && t.book.entries == []) = true := by decide +kernel
theorem witness_ConfigPut_length :
    let b := [34, 0] ++ be4 3600
    Asked 0x36 ⟨0x36, 7, b⟩ (ask 0x36 b base) ∧ b.length = 6 ∧ settingOf (byteAt b 0) (byteAt b 1) = some .intervalLength ∧
      base.store.status ≠ .saveBusy ∧ base.mode = .setup ∧ MayBeWritten base.ws .intervalLength (s32At b 2) ∧
      s32At b 2 ≠ base.ws.intervalLength :=
  ⟨ask_asked _ _ _ rfl, rfl, by decide +kernel, nofun, rfl, .inr (.inr (.inl (by decide +kernel))), by decide +kernel⟩
/-- R117, R141: the four ends of a min load's range, a rating below its train's min load, and a setting that does not
apply. -/
theorem witness_MayBeWritten : MayBeWritten factory (.minLoad .e3) 0 ∧ MayBeWritten factory (.minLoad .e3) 200 ∧
    ¬ MayBeWritten factory (.minLoad .e3) 201 ∧ MayBeWritten factory (.rating .e3) 60 ∧
    ¬ MayBeWritten factory (.rating .e3) 59 ∧ MayBeWritten factory (.rotation .discharge 15) 7 ∧
    ¬ MayBeWritten factory (.threshold .reheatLow) 5200 := by
  refine ⟨by simp only [MayBeWritten]; decide, by simp only [MayBeWritten]; decide,
    by simp only [MayBeWritten]; decide, ⟨⟨10, 400, rfl, by decide, by decide⟩, fun t h => by cases h; decide⟩,
    fun h => absurd (h.2 .e3 rfl) (by decide), .inr ⟨.e3, rfl, by decide⟩, fun ⟨⟨_, _, h, _⟩, _⟩ => nomatch h⟩
/-- R142: MODULE_HOT of H3 disabled while TRIPPED: NORMAL with every count 0, its module released; a PENDING entry; a LATCHED
one is left. -/
theorem test_disable :
    let s := fun (e : ProtEntry) (n : Byte) (st : ProtState) => ask 0x36 ([53, n] ++ be4 0)
      (setModule .h3 { ModuleRec.powerOn with role := .isolated } (setEntryRec e ⟨st, 2, 3, 4, some 9⟩ base))
    after .configPut (s (.moduleHot .h3) 10 .tripped) (fun t => t.prot.entries.moduleHot.h3 == ⟨.normal, 0, 0, 0, some 9⟩
      && t.heat.modules.h3.role == .idle && lastReply t == [0, 0, 0, 0, 0]) = true ∧
    after .configPut (s .cavLow 2 .pending) (fun t => t.prot.entries.cavLow == ⟨.normal, 0, 0, 0, some 9⟩) = true ∧
    after .configPut (s .cavLow 2 .latched) (fun t => t.prot.entries.cavLow == ⟨.latched, 2, 3, 4, some 9⟩) = true := by
  decide +kernel
theorem witness_ConfigPut_disable :
    let b := [53, 10] ++ be4 0
    Asked 0x36 ⟨0x36, 7, b⟩ (ask 0x36 b base) ∧ settingOf (byteAt b 0) (byteAt b 1) = some (.enable (.moduleHot .h3)) ∧
      MayBeWritten base.ws (.enable (.moduleHot .h3)) (s32At b 2) ∧ s32At b 2 = 0 :=
  ⟨ask_asked _ _ _ rfl, by decide +kernel, ⟨⟨0, 1, rfl, by decide +kernel, by decide +kernel⟩, nofun⟩, by decide +kernel⟩
theorem witness_ConfigPut_any_mode :
    let b := [62, 0] ++ be4 65535
    let s := ask 0x36 b (at61 .manual base)
    Asked 0x36 ⟨0x36, 7, b⟩ s ∧ b.length = 6 ∧ settingOf (byteAt b 0) (byteAt b 1) = some .defaultAlarmMask ∧
      s.store.status ≠ .saveBusy ∧
      Setting.defaultAlarmMask ∈ [.allowHostStart, .allowHostStop, .allowRecoverOnline, .defaultAlarmMask] ∧
      MayBeWritten s.ws .defaultAlarmMask (s32At b 2) :=
  ⟨ask_asked _ _ _ rfl, rfl, by decide +kernel, nofun, by decide,
    ⟨⟨0, 65535, rfl, by decide +kernel, by decide +kernel⟩, nofun⟩⟩
theorem witness_ConfigPut_capacity :
    let b := [22, 6] ++ be4 1000000
    let s := ask 0x36 b base
    Asked 0x36 ⟨0x36, 7, b⟩ s ∧ b.length = 6 ∧ settingOf (byteAt b 0) (byteAt b 1) = some (.capacity .h6) ∧
      s.store.status ≠ .saveBusy ∧ s.mode = .setup ∧ MayBeWritten s.ws (.capacity .h6) (s32At b 2) :=
  ⟨ask_asked _ _ _ rfl, rfl, by decide +kernel, nofun, rfl,
    ⟨⟨1000000, 400000000, rfl, by decide +kernel, by decide +kernel⟩, nofun⟩⟩
theorem witness_MapPut : Asked 0x37 ⟨0x37, 7, [0, BitVec.ofNat 8 6, BitVec.ofNat 8 4] ++ be2 2000⟩
    (ask 0x37 ([0, 6, 4] ++ be2 2000) base) ∧ Asked 0x37 ⟨0x37, 7, [1, BitVec.ofNat 8 0, BitVec.ofNat 8 0] ++ be2 100⟩
    (ask 0x37 ([1, 0, 0] ++ be2 100) base) ∧ base.mode = .setup ∧ base.store.status ≠ .saveBusy :=
  ⟨ask_asked _ _ _ rfl, ask_asked _ _ _ rfl, rfl, nofun⟩
theorem witness_Save : Asked 0x38 ⟨0x38, 7, []⟩ (ask 0x38 [] base) ∧ base.store.status ≠ .saveBusy :=
  ⟨ask_asked _ _ _ rfl, nofun⟩
theorem witness_SaveComplete :
    let s := { base with store := { base.store with status := .saveBusy } }
    running s = true ∧ s.store.status = .saveBusy := ⟨rfl, rfl⟩
theorem witness_Frozen : (at61 .manual base).mode ≠ .setup ∧ Instr.mark ≠ .powerOn ∧ Instr.mark ≠ .resetInRise :=
  ⟨nofun, nofun, nofun⟩
theorem witness_Alert : AlertFollowsTheAlarms base ∧ step base = .next base := ⟨by unfold AlertFollowsTheAlarms; decide, rfl⟩

end Sys2Proof.Machine
end

section
/-! PROOF. Performance maps and cavern arithmetic: how a map is read and written, what the mass, the pressure step and the
inverse clips keep, and the statements about the clips, the clipped interval and the writes of maps and image. -/
namespace Sys2Proof.Machine

/-! ## The bounds of 2.7 by name -/

theorem FlowBounds.stiffness_pos {w : WorkingSet} (h : FlowBounds w) : 0 < w.stiffness := by
  obtain ⟨-, hlow, -⟩ := h
  omega

theorem FlowBounds.reheat_pos {w : WorkingSet} (h : FlowBounds w) : 0 < w.reheat := by
  obtain ⟨-, -, -, -, -, -, -, -, hreheat, -⟩ := h
  exact hreheat

theorem FlowBounds.intervalLength_bounds {w : WorkingSet} (h : FlowBounds w) :
    0 < w.intervalLength ∧ w.intervalLength ≤ 7200 := by
  obtain ⟨-, -, -, -, -, -, -, -, -, hmem⟩ := h
  simp only [List.mem_cons, List.not_mem_nil, or_false] at hmem
  omega

/-! ## Map reads (2.3) -/

/-- A node in the grid is one of the 35 nodes of its map. -/
theorem node_mem (m : MapNodes) {i j : Nat} (hi : i ≤ 6) (hj : j ≤ 4) : node m i j ∈ m.toList := by
  have hk : 5 * i + j < m.toList.length := by simp only [Vector.length_toList]; omega
  rw [node, List.getD_eq_getElem?_getD, List.getElem?_eq_getElem hk, Option.getD_some]
  exact List.getElem_mem hk

/-- A coordinate, once clamped, falls into a cell of its axis with a weight from 0 to 256 (R23, R24). -/
theorem axisCell_bounds (x0 x : Int) {step : Int} {cells : Nat} (hstep : 0 < step) (hcells : 0 < cells) :
    (axisCell x0 step cells x).1 < cells ∧
      0 ≤ (axisCell x0 step cells x).2 ∧ (axisCell x0 step cells x).2 ≤ 256 := by
  have hlen : 0 < (cells : Int) * step := Int.mul_pos (by omega) hstep
  unfold axisCell
  dsimp only
  generalize hc : (if x < x0 then x0 else if x0 + cells * step < x then x0 + cells * step else x) = c
  have hclamp : x0 ≤ c ∧ c ≤ x0 + cells * step := by omega
  split
  case isTrue => exact ⟨Nat.sub_lt hcells Nat.one_pos, (by decide : (0 : Int) ≤ 256), Int.le_refl 256⟩
  case isFalse htop =>
    have hindex : (c - x0) / step < cells := Int.ediv_lt_of_lt_mul hstep (by omega)
    have hrem : 0 ≤ (c - x0) % step := Int.emod_nonneg _ (Int.ne_of_gt hstep)
    have hrem_lt : (c - x0) % step < step := Int.emod_lt_of_pos _ hstep
    exact ⟨by dsimp only; omega, Int.ediv_nonneg (by omega) (Int.le_of_lt hstep),
      Int.ediv_le_of_le_mul hstep (by omega)⟩

/-- A weighted mean with weights that sum to 256 is no less than a bound of both parts. -/
theorem le_weighted {lo x y f : Int} (hx : lo ≤ x) (hy : lo ≤ y) (h0 : 0 ≤ f) (h256 : f ≤ 256) :
    lo * 256 ≤ x * (256 - f) + y * f := by
  have hleft : lo * (256 - f) ≤ x * (256 - f) := Int.mul_le_mul_of_nonneg_right hx (by omega)
  have hright : lo * f ≤ y * f := Int.mul_le_mul_of_nonneg_right hy h0
  rw [Int.mul_sub] at hleft
  omega

/-- The blend of four nodes is no less than a bound of all nodes (R25). -/
theorem le_blend {m : MapNodes} {lo f g : Int} {i j : Nat} (hm : ∀ x ∈ m.toList, lo ≤ x) (hi : i < 6) (hj : j < 4)
    (hf0 : 0 ≤ f) (hf : f ≤ 256) (hg0 : 0 ≤ g) (hg : g ≤ 256) : lo ≤ blend m i f j g := by
  have hnode : ∀ i' j', i' ≤ 6 → j' ≤ 4 → lo ≤ node m i' j' := fun _ _ hi' hj' => hm _ (node_mem m hi' hj')
  have ha := le_weighted (hnode i j (by omega) (by omega)) (hnode (i + 1) j (by omega) (by omega)) hf0 hf
  have hb := le_weighted (hnode i (j + 1) (by omega) (by omega)) (hnode (i + 1) (j + 1) (by omega) (by omega)) hf0 hf
  have hab := le_weighted ha hb hg0 hg
  unfold blend
  dsimp only
  omega

/-- A map read is no less than a bound of all nodes, at every pressure and temperature (R22 to R25). -/
theorem le_mapRead {m : MapNodes} {ax : MapAxes} {lo : Int} (hm : ∀ x ∈ m.toList, lo ≤ x) (hp : 0 < ax.pStep)
    (ht : 0 < ax.tStep) (p t : Int) : lo ≤ mapRead m ax p t := by
  obtain ⟨hi, hf0, hf⟩ := axisCell_bounds ax.p0 p (cells := 6) hp (by decide)
  obtain ⟨hj, hg0, hg⟩ := axisCell_bounds ax.t0 t (cells := 4) ht (by decide)
  exact le_blend hm hi hj hf0 hf hg0 hg

theorem FlowBounds.hundred_le_workC {w : WorkingSet} (h : FlowBounds w) (p ambient : Int) : 100 ≤ workC w p ambient := by
  obtain ⟨-, -, -, hnodes, hp, ht, -⟩ := h
  exact le_mapRead (fun x hx => (hnodes x (List.mem_append_left _ hx)).1) hp ht p ambient

theorem FlowBounds.hundred_le_workE {w : WorkingSet} (h : FlowBounds w) (p reheat : Int) : 100 ≤ workE w p reheat := by
  obtain ⟨-, -, -, hnodes, -, -, hp, ht, -⟩ := h
  exact le_mapRead (fun x hx => (hnodes x (List.mem_append_right _ hx)).1) hp ht p reheat

/-! ## Mass and pressure step (2.4) -/

theorem mass_nonneg {P M w : Int} (hP : 0 ≤ P) (hM : 0 ≤ M) (hw : 0 ≤ w) : 0 ≤ mass P M w :=
  Int.ediv_nonneg (Int.mul_nonneg (Int.mul_nonneg hP (by decide)) hM) hw

/-- A power no larger than the one that moves the mass `m` moves no more than `m` (R26). -/
theorem mass_le_of_le_power {P M m w : Int} (hM : 0 < M) (hw : 0 < w) (hP : P ≤ m * w / (50 * M)) : mass P M w ≤ m := by
  have hpower : P * (50 * M) ≤ m * w := (Int.le_ediv_iff_mul_le (by omega)).mp hP
  rw [← Int.mul_assoc] at hpower
  exact Int.ediv_le_of_le_mul hw hpower

/-- The power that moves the mass `m`, rounded down, moves no less than `m - 3600` over an interval (R26): it is less than
1 dMW short, and 1 dMW moves at most 50 × 7200 / 100. -/
theorem sub_le_mass_of_power {M m w : Int} (hM : 0 < M) (hM' : M ≤ 7200) (hw : 100 ≤ w) :
    m - 3600 ≤ mass (m * w / (50 * M)) M w := by
  have hpower : m * w < (m * w / (50 * M) + 1) * (50 * M) := Int.lt_ediv_add_one_mul_self _ (by omega)
  rw [Int.add_mul, ← Int.mul_assoc] at hpower
  refine (Int.le_ediv_iff_mul_le (by omega)).mpr ?_
  rw [Int.sub_mul]
  omega

theorem ceilDiv_le {a b g : Int} (hb : 0 < b) (h : a ≤ g * b) : ceilDiv a b ≤ g :=
  Int.le_of_lt_add_one (Int.ediv_lt_of_lt_mul hb (by rw [Int.add_mul]; omega))

theorem ceilDiv_nonneg {a b : Int} (ha : 0 ≤ a) (hb : 0 < b) : 0 ≤ ceilDiv a b :=
  Int.ediv_nonneg (by omega) (Int.le_of_lt hb)

/-- A net mass within the room for a rise of `g` raises the pressure by no more than `g` (R27). -/
theorem pressStep_le {w : WorkingSet} {dm g : Int} (hs : 0 < w.stiffness) (hg : 0 ≤ g)
    (h : dm ≤ g * 1024000 / w.stiffness) : pressStep w dm ≤ g := by
  have hroom : dm * w.stiffness ≤ g * 1024000 := (Int.le_ediv_iff_mul_le hs).mp h
  unfold pressStep
  split
  · exact hg
  split
  · exact ceilDiv_le (by decide) hroom
  · have hdrop := ceilDiv_nonneg (b := 1024000)
      (Int.mul_nonneg (show 0 ≤ -dm by omega) (Int.le_of_lt hs)) (by decide)
    omega

/-- A net mass and its negative step the pressure by opposite amounts (R27). -/
theorem pressStep_neg (w : WorkingSet) (dm : Int) : pressStep w (-dm) = -pressStep w dm := by
  unfold pressStep
  rcases Int.lt_trichotomy dm 0 with hneg | rfl | hpos
  · rw [if_neg (by omega), if_pos (by omega), if_neg (by omega), if_neg (by omega), Int.neg_neg]
  · rfl
  · rw [if_neg (by omega), if_neg (by omega), if_neg (by omega), if_pos (by omega), Int.neg_neg]

/-! ## The inverse clips (2.5) -/

/-- An inverse clip's power: that which moves the mass `m` over one full interval, 0 or more where `m` is. -/
theorem power_nonneg {w : WorkingSet} (h : FlowBounds w) {m work : Int} (hm : 0 ≤ m) (hwork : 0 ≤ work) :
    0 ≤ m * work / (50 * w.intervalLength) := by
  have hL := h.intervalLength_bounds.1
  exact Int.ediv_nonneg (Int.mul_nonneg hm hwork) (by omega)

/-- The high-side clip is the smaller of the charge and a power of 0 or more (R29, R32). -/
theorem highClip_eq_min {w : WorkingSet} (h : FlowBounds w) (p : Int) {charge mE wC : Int} (hcharge : 0 ≤ charge)
    (hmE : 0 ≤ mE) (hwC : 0 ≤ wC) : ∃ k, 0 ≤ k ∧ highClip w p charge mE wC = min charge k := by
  unfold highClip
  split
  · exact ⟨0, Int.le_refl 0, by omega⟩
  · have hroom : 0 ≤ (w.pWh - p) * 1024000 / w.stiffness :=
      Int.ediv_nonneg (by omega) (Int.le_of_lt h.stiffness_pos)
    exact ⟨_, power_nonneg h (by omega) hwC, rfl⟩

/-- The low-side clip is the smaller of the discharge and a power of 0 or more (R30, R32). -/
theorem lowClip_eq_min {w : WorkingSet} (h : FlowBounds w) (p : Int) {discharge mC wE : Int} (hdischarge : 0 ≤ discharge)
    (hmC : 0 ≤ mC) (hwE : 0 ≤ wE) : ∃ k, 0 ≤ k ∧ lowClip w p discharge mC wE = min discharge k := by
  unfold lowClip
  split
  · exact ⟨0, Int.le_refl 0, by omega⟩
  · have hroom : 0 ≤ (p - w.pWl) * 1024000 / w.stiffness :=
      Int.ediv_nonneg (by omega) (Int.le_of_lt h.stiffness_pos)
    exact ⟨_, power_nonneg h (by omega) hwE, rfl⟩

/-- The heat clip is the smaller of the discharge and a power of 0 or more (R35, R32). -/
theorem heatClip_eq_min {w : WorkingSet} (h : FlowBounds w) (discharge : Int) {heat wE : Int} (hheat : 0 ≤ heat)
    (hwE : 0 ≤ wE) : ∃ k, 0 ≤ k ∧ heatClip w discharge heat wE = min discharge k :=
  ⟨_, power_nonneg h (Int.ediv_nonneg hheat (Int.le_of_lt h.reheat_pos)) hwE, rfl⟩

/-- The smaller of a power and a value of 0 or more lies from 0 to the power. -/
theorem clip_bounds {clipped power : Int} (hpower : 0 ≤ power) (h : ∃ k, 0 ≤ k ∧ clipped = min power k) :
    0 ≤ clipped ∧ clipped ≤ power := by
  obtain ⟨k, hk, rfl⟩ := h
  exact ⟨Int.le_min.mpr ⟨hpower, hk⟩, Int.min_le_left _ _⟩

/-! ## The clip steps (R85, R86) -/

theorem sideCapacity_nonneg {w : WorkingSet} (hrating : ∀ t, 0 ≤ w.rating.get t) (ts : PerTrain TrainRec) (p : Int)
    (sd : Side) : 0 ≤ sideCapacity w ts p sd := by
  unfold sideCapacity
  induction sd.trains with
  | nil => exact Int.le_refl 0
  | cons t ts' ih =>
    have hrated := hrating t
    rw [List.map_cons, List.sum_cons]
    split <;> omega

/-- The capacity step leaves from 0 to the request (R85). -/
theorem capStep_bounds {c : ClipFrom} (hrating : ∀ t, 0 ≤ c.ws.rating.get t) (p : Int) (sd : Side) (isOpen : Bool)
    {request : Int} (hreq : 0 ≤ request) :
    0 ≤ (capStep c p sd isOpen request).2 ∧ (capStep c p sd isOpen request).2 ≤ request := by
  have hcap : 0 ≤ if isOpen then sideCapacity c.ws c.trains p sd else 0 := by
    split
    · exact sideCapacity_nonneg hrating c.trains p sd
    · exact Int.le_refl 0
  unfold capStep
  dsimp only
  generalize (if isOpen then sideCapacity c.ws c.trains p sd else 0) = cap at hcap ⊢
  split <;> omega

/-- The four clip steps leave both sides a target from 0 to the request (R32, R85, R86). -/
theorem clipSteps_bounds {c : ClipFrom} (h : FlowBounds c.ws) (hrating : ∀ t, 0 ≤ c.ws.rating.get t) (p : Int) {heat : Int}
    (hheat : 0 ≤ heat) (isOpen : PerSide Bool) {request : PerSide Int} (hc : 0 ≤ request.charge)
    (hd : 0 ≤ request.discharge) :
    (0 ≤ (clipSteps c p heat isOpen request).clipped.charge ∧
        (clipSteps c p heat isOpen request).clipped.charge ≤ request.charge) ∧
      0 ≤ (clipSteps c p heat isOpen request).clipped.discharge ∧
        (clipSteps c p heat isOpen request).clipped.discharge ≤ request.discharge := by
  have hL := Int.le_of_lt h.intervalLength_bounds.1
  have hwC : 0 ≤ workC c.ws p c.ambient := Int.le_trans (by decide) (h.hundred_le_workC p c.ambient)
  have hwE : 0 ≤ workE c.ws p c.reheatTemp := Int.le_trans (by decide) (h.hundred_le_workE p c.reheatTemp)
  obtain ⟨hc1, hc1_le⟩ := capStep_bounds hrating p .charge isOpen.charge hc
  obtain ⟨hd1, hd1_le⟩ := capStep_bounds hrating p .discharge isOpen.discharge hd
  obtain ⟨hd2, hd2_le⟩ := clip_bounds hd1 (heatClip_eq_min h _ hheat hwE)
  obtain ⟨hc3, hc3_le⟩ := clip_bounds hc1 (highClip_eq_min h p hc1 (mass_nonneg hd2 hL hwE) hwC)
  obtain ⟨hd4, hd4_le⟩ := clip_bounds hd2 (lowClip_eq_min h p hd2 (mass_nonneg hc3 hL hwC) hwE)
  exact ⟨⟨hc3, Int.le_trans hc3_le hc1_le⟩, hd4, Int.le_trans hd4_le (Int.le_trans hd2_le hd1_le)⟩

/-- Settles O19: each clip is a minimum with a value of 0 or more, and the clip steps are one clip after another. -/
theorem clipsNeverRaiseARequest : Obligations.ClipsNeverRaiseARequest := by
  intro w p ambient reheatTemp power other heat h hpower hother hheat wC wE
  have hwC : 0 ≤ wC := Int.le_trans (by decide) (h.hundred_le_workC p ambient)
  have hwE : 0 ≤ wE := Int.le_trans (by decide) (h.hundred_le_workE p reheatTemp)
  have hhigh := highClip_eq_min h p hpower hother hwC
  have hlow := lowClip_eq_min h p hpower hother hwE
  have hheatClip := heatClip_eq_min h power hheat hwE
  exact ⟨hhigh, clip_bounds hpower hhigh, hlow, clip_bounds hpower hlow, hheatClip, clip_bounds hpower hheatClip,
    fun _ isOpen _ hrating hc hd => clipSteps_bounds h hrating p hheat isOpen hc hd⟩

/-! ## The clipped interval (R33) -/

/-- The charge left by the high-side clip moves no more than the room below the window's top and the discharge mass it was
given (R29). -/
theorem mass_highClip_le {w : WorkingSet} (h : FlowBounds w) {p charge mE wC : Int} (hp : p ≤ w.pWh) (hwC : 0 < wC) :
    mass (highClip w p charge mE wC) w.intervalLength wC ≤ (w.pWh - p) * 1024000 / w.stiffness + mE := by
  refine mass_le_of_le_power h.intervalLength_bounds.1 hwC ?_
  rw [highClip, if_neg (by omega)]
  exact Int.min_le_right _ _

/-- The discharge left by the low-side clip moves no more than the room above the window's foot and the charge mass it was
given (R30). -/
theorem mass_lowClip_le {w : WorkingSet} (h : FlowBounds w) {p discharge mC wE : Int} (hp : w.pWl ≤ p) (hwE : 0 < wE) :
    mass (lowClip w p discharge mC wE) w.intervalLength wE ≤ mC + (p - w.pWl) * 1024000 / w.stiffness := by
  refine mass_le_of_le_power h.intervalLength_bounds.1 hwE ?_
  rw [lowClip, if_neg (by omega)]
  exact Int.min_le_right _ _

/-- A discharge the low-side clip cuts still moves that room and the charge mass, but for the rounding of one power. -/
theorem mass_lowClip_ge {w : WorkingSet} (h : FlowBounds w) {p discharge mC wE : Int} (hp : w.pWl ≤ p) (hwE : 100 ≤ wE) :
    lowClip w p discharge mC wE = discharge ∨
      mC + (p - w.pWl) * 1024000 / w.stiffness - 3600 ≤ mass (lowClip w p discharge mC wE) w.intervalLength wE := by
  obtain ⟨hL, hL'⟩ := h.intervalLength_bounds
  rw [lowClip, if_neg (by omega)]
  rcases Int.le_total discharge
    ((mC + (p - w.pWl) * 1024000 / w.stiffness) * wE / (50 * w.intervalLength)) with huncut | hcut
  · exact .inl (Int.min_eq_left huncut)
  · rw [Int.min_eq_right hcut]
    exact .inr (sub_le_mass_of_power hL hL' hwE)

/-- The rooms below the top and above the foot of a window of 10 bar or more together outweigh the rounding of one power
(2.7). -/
theorem rounding_le_rooms {w : WorkingSet} (h : FlowBounds w) (p : Int) :
    3600 ≤ (w.pWh - p) * 1024000 / w.stiffness + (p - w.pWl) * 1024000 / w.stiffness := by
  obtain ⟨hwindow, hlow, hhigh, -⟩ := h
  have hs : 0 < w.stiffness := by omega
  have htop := Int.lt_ediv_add_one_mul_self ((w.pWh - p) * 1024000) hs
  have hfoot := Int.lt_ediv_add_one_mul_self ((p - w.pWl) * 1024000) hs
  generalize (w.pWh - p) * 1024000 / w.stiffness = top at *
  generalize (p - w.pWl) * 1024000 / w.stiffness = foot at *
  refine Int.not_lt.mp fun hsmall => ?_
  have hscaled : (top + foot + 2) * w.stiffness ≤ 3601 * w.stiffness :=
    Int.mul_le_mul_of_nonneg_right (by omega) (Int.le_of_lt hs)
  rw [Int.add_mul] at htop hfoot
  rw [Int.add_mul, Int.add_mul] at hscaled
  omega

/-- Settles O20: the charge clip bounds the rise when the discharge stands; when the low-side clip cuts the discharge, the
cut one still moves so much that the window's width covers the rest. The low-side clip bounds the fall. -/
theorem clippedIntervalStaysInTheWindow : Obligations.ClippedIntervalStaysInTheWindow := by
  intro w p ambient reheatTemp charge discharge h hpl hph _ _ L wC wE c d
  have hwC : 100 ≤ wC := h.hundred_le_workC p ambient
  have hwE : 100 ≤ wE := h.hundred_le_workE p reheatTemp
  have hcharge : mass c L wC ≤ (w.pWh - p) * 1024000 / w.stiffness + mass discharge L wE :=
    mass_highClip_le h hph (by omega)
  have hdischarge : mass d L wE ≤ mass c L wC + (p - w.pWl) * 1024000 / w.stiffness := mass_lowClip_le h hpl (by omega)
  have hrise : mass c L wC - mass d L wE ≤ (w.pWh - p) * 1024000 / w.stiffness := by
    rcases mass_lowClip_ge h hpl hwE with huncut | hcut
    · have hd : d = discharge := huncut
      rw [hd]
      omega
    · have hd : mass c L wC + (p - w.pWl) * 1024000 / w.stiffness - 3600 ≤ mass d L wE := hcut
      have hrooms := rounding_le_rooms h p
      omega
  have hup := pressStep_le h.stiffness_pos (show 0 ≤ w.pWh - p by omega) hrise
  have hdown := pressStep_le h.stiffness_pos (show 0 ≤ p - w.pWl by omega)
    (show -(mass c L wC - mass d L wE) ≤ _ by omega)
  rw [pressStep_neg] at hdown
  have hend : stepPressure w p ambient reheatTemp c d L = p + pressStep w (mass c L wC - mass d L wE) := rfl
  omega

/-! ## Requests and their fields -/

/-- A request at the head of the host queue of a running part is worked and its reply handed on. -/
theorem whenRunning_answer_of_asked {k : Byte} {f : Frame} {s t : State} {body : List Byte}
    {work : List Byte → State → Worked} (h : Asked k f s) (hwork : work f.body s = (body, t)) :
    whenRunning (answer k work) s = .next (answered f body t) := by
  obtain ⟨hrun, hhead, hkind⟩ := h
  obtain ⟨fs, hqueue⟩ := List.head?_eq_some_iff.mp hhead
  rw [whenRunning_of hrun, answer_head hqueue hkind, hwork, sendReply, answered, List.drop_one]

/-- A two-byte field reads as the value it was formed from (10.1). -/
theorem u16At_be2 {v : Int} (h0 : 0 ≤ v) (h : v < 65536) : u16At (be2 v) 0 = v := by
  have hbytes : u16At (be2 v) 0 =
      (((BitVec.ofInt 16 v).extractLsb' 8 8).toNat * 256 + ((BitVec.ofInt 16 v).extractLsb' 0 8).toNat : Nat) := rfl
  rw [hbytes, BitVec.extractLsb'_toNat, BitVec.extractLsb'_toNat, BitVec.toNat_ofInt, Nat.shiftRight_eq_div_pow,
    Nat.shiftRight_zero]
  omega

/-! ## MAP_PUT (R20, R164) -/

/-- The node written holds the value. -/
theorem node_setIfInBounds_self (m : MapNodes) {i j : Nat} (v : Int) (hi : i ≤ 6) (hj : j ≤ 4) :
    node (m.setIfInBounds (5 * i + j) v) i j = v := by
  have hk : 5 * i + j < 35 := by omega
  simp [node, List.getD_eq_getElem?_getD, hk]

/-- A write of one node leaves every other. -/
theorem node_setIfInBounds_ne (m : MapNodes) {i j i' j' : Nat} (v : Int) (hj : j ≤ 4) (hj' : j' ≤ 4)
    (hne : i' ≠ i ∨ j' ≠ j) : node (m.setIfInBounds (5 * i + j) v) i' j' = node m i' j' := by
  have hk : 5 * i + j ≠ 5 * i' + j' := by omega
  simp [node, List.getD_eq_getElem?_getD, List.getElem?_set_ne hk]

/-- The working of a well-formed MAP_PUT in SETUP while no save is in progress. -/
theorem workMapPut_accepts {s : State} {map i j : Nat} {v : Int} (hmode : s.mode = .setup)
    (hidle : s.store.status ≠ .saveBusy) (hmap : map ≤ 1) (hi : i ≤ 6) (hj : j ≤ 4) (hlo : 100 ≤ v) (hhi : v ≤ 2000) :
    workMapPut ([BitVec.ofNat 8 map, BitVec.ofNat 8 i, BitVec.ofNat 8 j] ++ be2 v) s =
      (reply .ok [], writeSet (putNode s.ws map i j v) s) := by
  generalize hb : [BitVec.ofNat 8 map, BitVec.ofNat 8 i, BitVec.ofNat 8 j] ++ be2 v = b
  have hlen : b.length = 5 := by subst hb; rfl
  have h0 : byteAt b 0 = map := by subst hb; exact Nat.mod_eq_of_lt (by omega)
  have h1 : byteAt b 1 = i := by subst hb; exact Nat.mod_eq_of_lt (by omega)
  have h2 : byteAt b 2 = j := by subst hb; exact Nat.mod_eq_of_lt (by omega)
  have h3 : u16At b 3 = v := by subst hb; exact u16At_be2 (by omega) (by omega)
  have hin : within 100 2000 v = true := by simp [within, hlo, hhi]
  rw [workMapPut, hlen, h0, h1, h2, h3, hin, if_neg (by omega), if_neg hidle, if_neg (not_not_intro hmode),
    if_neg (by simp only [Bool.not_true, Bool.false_eq_true, or_false]; omega)]

/-- Settles O57: the three commands worked on the frame and the store they are given. -/
theorem mapPutAndSaveWrite : Obligations.MapPutAndSaveWrite := by
  refine ⟨fun s f i j v hasked hmode hidle hi hj hlo hhi => ⟨fun hbody => ?cmap, fun hbody => ?emap⟩,
    fun s f hasked hbody hidle => ?save, fun s crc hrun hbusy => ?complete⟩
  case cmap =>
    refine ⟨s.ws.cmap.setIfInBounds (5 * i + j) v, whenRunning_answer_of_asked hasked ?_,
      node_setIfInBounds_self _ v hi hj, fun _ _ hj' hne => node_setIfInBounds_ne _ v hj hj' hne⟩
    rw [hbody]
    exact workMapPut_accepts (map := 0) hmode hidle (by decide) hi hj hlo hhi
  case emap =>
    refine ⟨s.ws.emap.setIfInBounds (5 * i + j) v, whenRunning_answer_of_asked hasked ?_,
      node_setIfInBounds_self _ v hi hj, fun _ _ hj' hne => node_setIfInBounds_ne _ v hj hj' hne⟩
    rw [hbody]
    exact workMapPut_accepts (map := 1) hmode hidle (by decide) hi hj hlo hhi
  case save =>
    refine whenRunning_answer_of_asked hasked ?_
    rw [hbody, bare, if_pos rfl, workConfigSave, if_neg hidle]
    rfl
  case complete =>
    have hsave := whenRunning_of (f := fun s : State =>
      if s.store.status = .saveBusy then { s with store := saved s.ws crc s.store } else s) hrun
    exact hsave.trans (congrArg _ (if_pos hbusy))

end Sys2Proof.Machine
end

section
/-! PROOF. What every command leaves of the protection unit: a LATCHED entry stays LATCHED (R142, R147, R157) and permit lines
at the levels of R150 stay there, command by command through one relation, `Keeps`, between the state before and after. -/
namespace Sys2Proof.Machine

/-! ## The relations -/

/-- The permit lines are at the levels of R150, whether or not the part runs. -/
def Formed (s : State) : Prop := s.permits = .ofFn (permitLevel s)

/-- From one state to another the part runs as before, and no entry leaves LATCHED. -/
structure Stands (s t : State) : Prop where
  running : running t = running s
  latched : ∀ e, (s.prot.entries.get e).state = .latched → (t.prot.entries.get e).state = .latched

/-- From one state to another no entry leaves LATCHED, and permit lines at the levels of R150 stay there. -/
structure Keeps (s t : State) : Prop where
  stands : Stands s t
  formed : Formed s → Formed t

theorem running_of_far {s t : State} (h : farPart t = farPart s) : running t = running s := by
  simp only [farPart, Prod.mk.injEq] at h
  simp only [running, h]

theorem prot_of_outer {s t : State} (h : outerPart t = outerPart s) : t.prot = s.prot := by
  simp only [outerPart, Prod.mk.injEq] at h
  simp only [h]

/-- The level of R150 is formed from the mode, the actions and the states of the entries. -/
theorem permitLevel_congr {s t : State} (hmode : t.mode = s.mode) (haction : t.ws.action = s.ws.action)
    (hstate : ∀ e, (t.prot.entries.get e).state = (s.prot.entries.get e).state) : permitLevel t = permitLevel s := by
  have hforce : ∀ e, inForce (t.prot.entries.get e) = inForce (s.prot.entries.get e) := fun e => by
    simp only [inForce, hstate]
  have hact : ∀ e, entryAction t.ws e = entryAction s.ws e := fun e => by
    cases e <;> simp only [entryAction, haction]
  funext sd
  simp only [permitLevel, hmode, hforce, hact]

/-- After a formation the permit lines are at the levels of R150. -/
theorem formed_formPermits (s : State) : Formed (formPermits s) := by
  have hfar := far_formPermits s
  simp only [farPart, Prod.mk.injEq] at hfar
  have hlevel : permitLevel (formPermits s) = permitLevel s :=
    permitLevel_congr (by simp only [hfar]) (by simp only [hfar]) (fun e => by rw [formPermits_prot])
  rw [Formed, formPermits_permits, hlevel]

namespace Stands

theorem refl (s : State) : Stands s s := ⟨rfl, fun _ h => h⟩

theorem trans {s t u : State} (h : Stands s t) (h' : Stands t u) : Stands s u :=
  ⟨h'.running.trans h.running, fun e he => h'.latched e (h.latched e he)⟩

/-- Where the entries are not written and the supply and RESET_IN stand. -/
theorem of_entries {s t : State} (hrun : Machine.running t = Machine.running s) (h : t.prot.entries = s.prot.entries) :
    Stands s t := ⟨hrun, fun e he => by rw [h]; exact he⟩

theorem of_outer {s t : State} (h : outerPart t = outerPart s) : Stands s t :=
  of_entries (running_of_far (far_of_outer h)) (by rw [prot_of_outer h])

end Stands

namespace Keeps

theorem refl (s : State) : Keeps s s := ⟨.refl s, id⟩

theorem trans {s t u : State} (h : Keeps s t) (h' : Keeps t u) : Keeps s u :=
  ⟨h.stands.trans h'.stands, fun hs => h'.formed (h.formed hs)⟩

/-- Where nothing is written that the permit lines are formed from, and no state of an entry. -/
theorem of_states {s t : State} (hrun : running t = running s) (hpermits : t.permits = s.permits) (hmode : t.mode = s.mode)
    (haction : t.ws.action = s.ws.action)
    (hstate : ∀ e, (t.prot.entries.get e).state = (s.prot.entries.get e).state) : Keeps s t :=
  ⟨⟨hrun, fun e he => (hstate e).trans he⟩, fun hs => by
    rw [Formed, hpermits, permitLevel_congr hmode haction hstate]; exact hs⟩

theorem of_outer {s t : State} (h : outerPart t = outerPart s) : Keeps s t := by
  have hprot := prot_of_outer h
  have hrun := running_of_far (far_of_outer h)
  simp only [outerPart, Prod.mk.injEq] at h
  exact .of_states hrun (by simp only [h]) (by simp only [h]) (by simp only [h]) (fun e => by rw [hprot])

/-- A change that ends with a formation of the permit lines. -/
theorem form {s t : State} (h : Stands s t) : Keeps s (formPermits t) :=
  ⟨h.trans (.of_entries (running_of_far (far_formPermits t)) (by rw [formPermits_prot])), fun _ => formed_formPermits t⟩

theorem ite {c : Prop} [Decidable c] {s t : State} (h : Keeps s t) : Keeps s (if c then t else s) := by
  split
  · exact h
  · exact .refl s

theorem inOrder {α : Type} {f : α → State → State} (h : ∀ x s, Keeps s (f x s)) (l : List α) (s : State) :
    Keeps s (inOrder f l s) := by
  induction l generalizing s with
  | nil => exact .refl s
  | cons x l ih => exact (h x s).trans (ih _)

/-- A write of the link unit alone. -/
theorem of_link {s t : State} (h : t = { s with link := t.link }) : Keeps s t := by
  rw [h]
  exact .of_states rfl rfl rfl rfl (fun _ => rfl)

end Keeps

/-! ## The protection unit (R144) -/

theorem setEntryRec_self (e : ProtEntry) (r : EntryRec) (s : State) : (setEntryRec e r s).prot.entries.get e = r :=
  PerEntry.get_set_self _ _ _

theorem setEntryRec_other {e k : ProtEntry} (r : EntryRec) (s : State) (h : k ≠ e) :
    (setEntryRec e r s).prot.entries.get k = s.prot.entries.get k := PerEntry.get_set_ne _ _ h

/-- A record that is LATCHED where the one it replaces was. -/
theorem Stands.setEntryRec {e : ProtEntry} {r : EntryRec} {s : State}
    (h : (s.prot.entries.get e).state = .latched → r.state = .latched) : Stands s (setEntryRec e r s) := by
  refine ⟨running_of_far (far_setEntryRec e r s), fun k hk => ?_⟩
  by_cases hke : k = e
  · subst hke
    rw [setEntryRec_self]
    exact h hk
  · rw [setEntryRec_other r s hke]
    exact hk

/-- The evaluation of a LATCHED entry leaves it LATCHED (R147). -/
theorem evaluation_latched {s : State} {e : ProtEntry} {x : EntryRec × ProtEvent} (h : evaluation s e = some x)
    (he : (s.prot.entries.get e).state = .latched) : x.1.state = .latched := by
  unfold evaluation at h
  split at h
  · obtain ⟨v, -, rfl⟩ := Option.map_eq_some_iff.mp h
    simp only [evaluateEntry, transition, he]
  · cases h

theorem stands_evaluateAll (es : List ProtEntry) (s : State) : Stands s (evaluateAll es s).2 := by
  induction es generalizing s with
  | nil => exact .refl s
  | cons e es ih =>
    simp only [evaluateAll]
    split
    next r ev heval => exact (Stands.setEntryRec (evaluation_latched heval)).trans (ih _)
    next => exact ih s

@[simp] theorem recordTrip_entries (x : ProtEntry × ProtEvent) (s : State) :
    (recordTrip x s).prot.entries = s.prot.entries := by
  unfold recordTrip
  split <;> rfl

/-- The isolation, release and trip requests leave the outer part. -/
theorem outer_requests (xs : List (ProtEntry × ProtEvent)) (s : State) :
    outerPart (inOrder trainTripRequest xs (inOrder moduleRequest xs s)) = outerPart s := by
  rw [inOrder_keeps outerPart trainTripRequest outer_trainTripRequest, inOrder_keeps outerPart moduleRequest outer_moduleRequest]

/-- Stages 3 to 5 leave the protection unit's own state. -/
theorem laterStages_prot (xs : List (ProtEntry × ProtEvent)) (s : State) : (laterStages xs s).prot = s.prot := by
  rw [laterStages, formPermits_prot, prot_of_outer (outer_requests xs s)]

/-- Stages 3 to 5 form the permit lines, whatever came before. -/
theorem formed_laterStages (xs : List (ProtEntry × ProtEvent)) (s : State) : Formed (laterStages xs s) :=
  formed_formPermits _

theorem Keeps.laterStages {s t : State} (h : Stands s t) (xs : List (ProtEntry × ProtEvent)) :
    Keeps s (laterStages xs t) := .form (h.trans (.of_outer (outer_requests xs t)))

theorem keeps_protArrival (es : List ProtEntry) (s : State) : Keeps s (protArrival es s) := by
  refine .laterStages ((stands_evaluateAll es s).trans (.of_entries (running_of_far ?_) ?_)) _
  · exact inOrder_keeps farPart recordTrip far_recordTrip _ _
  · exact inOrder_keeps (fun s => s.prot.entries) recordTrip recordTrip_entries _ _

/-- A NORMAL mark count changes no state of an entry (R148). -/
theorem normalMark_state (w : WorkingSet) (e : ProtEntry) (r : EntryRec) : (normalMark w e r).state = r.state := by
  unfold normalMark
  split <;> rfl

theorem keeps_countNormalMarks (s : State) : Keeps s (countNormalMarks s) :=
  .of_states rfl rfl rfl rfl fun e => by
    rw [countNormalMarks, PerEntry.get_ofFn, normalMark_state]

theorem keeps_clearTripCount (e : ProtEntry) (s : State) :
    Keeps s (setEntryRec e (normalMark s.ws e (s.prot.entries.get e)) s) :=
  .of_states rfl rfl rfl rfl fun k => by
    by_cases hk : k = e
    · subst hk
      rw [setEntryRec_self, normalMark_state]
    · rw [setEntryRec_other _ s hk]

/-- Disabling an entry leaves a LATCHED one as it is (R142). -/
theorem disabledRec_latched {r : EntryRec} (h : r.state = .latched) : (disabledRec r).1.state = .latched := by
  simp only [disabledRec, h]

/-! ## Scans and marks -/

theorem keeps_setMeas (m : MeasState) (s : State) : Keeps s (setMeas m s) := .of_states rfl rfl rfl rfl (fun _ => rfl)

theorem keeps_scanTask (steps : Int) (x : ScanTask) (s : State) : Keeps s (scanTask steps x s) := by
  cases x with
  | heat => exact .of_outer (outer_heatTakesScan steps s)
  | sink => exact keeps_protArrival _ s
  | protection => exact keeps_protArrival _ s
  | sequencer => exact .of_outer (outer_seqTakesScan s)

theorem keeps_takeScan (r : ScanRecord) (s : State) : Keeps s (takeScan r s) := by
  unfold takeScan
  split
  next => exact keeps_setMeas _ s
  next steps g _ =>
    have haccept : Keeps s (acceptScan g r s) :=
      (keeps_setMeas (measAfter s.ws g r s.meas) s).trans (.of_outer (by simp [acceptScan]))
    exact (haccept.trans (.of_outer (outer_drawChoice _))).trans (.inOrder (keeps_scanTask steps) _ _)

theorem keeps_measTakesMark (s : State) : Keeps s (measTakesMark s) := by
  unfold measTakesMark
  split
  · exact keeps_setMeas _ s
  · split
    · exact .refl s
    · exact keeps_setMeas _ s

theorem keeps_markTask (x : MarkTask) (s : State) : Keeps s (markTask x s) := by
  cases x with
  | measurement => exact keeps_measTakesMark s
  | normalMarks => exact keeps_countNormalMarks s
  | fieldLoss => exact keeps_protArrival _ s
  | sequencer => exact .of_outer (outer_seqTakesMark s)
  | clock => exact .of_outer (outer_clockTakesMark s)

theorem keeps_takeMark (s : State) : Keeps s (takeMark s) :=
  (Keeps.of_outer (outer_drawChoice s)).trans (.inOrder keeps_markTask _ _)

/-! ## The links -/

theorem feed_link (l : Link) (b : Byte) (s : State) : feed l b s = { s with link := (feed l b s).link } := by
  unfold feed
  split
  · split <;> rfl
  · rfl
  · split <;> rfl
  · unfold frameComplete enqueue
    dsimp only
    split
    · split
      · split <;> rfl
      · rfl
    · rfl

theorem keeps_feedAll (l : Link) (bs : List Byte) (s : State) : Keeps s (feedAll l bs s) := by
  induction bs generalizing s with
  | nil => exact .refl s
  | cons b bs ih => exact (Keeps.of_link (feed_link l b s)).trans (ih _)

theorem keeps_gap (l : Link) (s : State) : Keeps s (gap l s) := by
  unfold gap
  split
  · exact .refl s
  · exact .of_link rfl

theorem keeps_sendReply (f : Frame) (w : Worked) : Keeps w.2 (sendReply f w) := .of_link (sendReply_eq f w)

/-! ## Requests -/

/-- What a request's working keeps, taking it and answering it keeps too. -/
theorem Keeps.answer {k : Byte} {work : List Byte → State → Worked} (h : ∀ b s, Keeps s (work b s).2) (s : State) :
    Keeps s (answer k work s) := by
  unfold Machine.answer
  split
  next f _ _ =>
    split
    · exact (h f.body s).trans (keeps_sendReply f _)
    · exact .refl s
  next => exact .refl s

theorem Keeps.bare {work : State → Worked} (h : ∀ s, Keeps s (work s).2) (b : List Byte) (s : State) :
    Keeps s (bare work b s).2 := by
  unfold Machine.bare
  split
  · exact h s
  · exact .refl s

/-- A bare read changes nothing. -/
theorem keeps_read (k : Byte) (fields : State → List Byte) (s : State) : Keeps s (answer k (bare (readOnly fields)) s) :=
  .answer (.bare fun s => .refl s) s

theorem Keeps.trainRequest {work : Train → State → Worked} (h : ∀ t s, Keeps s (work t s).2) (b : List Byte) (s : State) :
    Keeps s (trainRequest work b s).2 := by
  unfold Machine.trainRequest
  split
  · exact .refl s
  · split
    · exact .refl s
    · exact h _ s

/-! ## The workings of the requests -/

theorem Keeps.worked {b : List Byte} {s t : State} (h : Keeps s t) : Keeps s ((b, t) : Worked).2 := h

/-- A check that refuses, in front of a working (R174). -/
theorem Keeps.checked {c : Prop} [Decidable c] {st : Status} {s : State} {w : Worked} (h : Keeps s w.2) :
    Keeps s (if c then refuse st s else w).2 := by
  split
  · exact .refl s
  · exact h

theorem keeps_requestRun {s t : State} (h : Keeps s t) : Keeps s (requestRun t) := h.trans (.of_outer (outer_requestRun t))

theorem keeps_setEntries (es : List Entry) (s : State) : Keeps s (setEntries es s) := .of_states rfl rfl rfl rfl (fun _ => rfl)

theorem keeps_setGroup (g : GroupId) (x : Option (List Change)) (s : State) : Keeps s (setGroup g x s) :=
  .of_states rfl rfl rfl rfl (fun _ => rfl)

theorem keeps_workLinkRead (b : List Byte) (s : State) : Keeps s (workLinkRead b s).2 :=
  .checked (.ite (.of_states rfl rfl rfl rfl (fun _ => rfl)))

theorem keeps_workBookRead (b : List Byte) (s : State) : Keeps s (workBookRead b s).2 := .checked (.refl s)

theorem keeps_workEntryPut (b : List Byte) (s : State) : Keeps s (workEntryPut b s).2 := by
  unfold workEntryPut
  split
  · exact .refl s
  · split
    · exact .refl s
    · split
      · exact keeps_requestRun (keeps_setEntries _ s)
      · exact .refl s

theorem keeps_workEntryDrop (b : List Byte) (s : State) : Keeps s (workEntryDrop b s).2 := by
  refine .checked ?_
  split
  · exact .refl s
  · exact keeps_requestRun (keeps_setEntries _ s)

theorem keeps_workGroupOpen (s : State) : Keeps s (workGroupOpen s).2 := by
  unfold workGroupOpen
  split
  · exact keeps_setGroup _ _ s
  · exact .refl s

theorem keeps_workGroupAdd (b : List Byte) (s : State) : Keeps s (workGroupAdd b s).2 := by
  unfold workGroupAdd
  split
  · exact .refl s
  · split
    · exact .refl s
    · refine .checked ?_
      split
      · exact .refl s
      · exact keeps_setGroup _ _ s

theorem keeps_workGroupLaunch (b : List Byte) (s : State) : Keeps s (workGroupLaunch b s).2 := by
  refine .checked ?_
  split
  · exact .refl s
  · split
    · exact .refl s
    · split
      next => exact .refl s
      next g _ _ _ _ _ es _ =>
        have hbook : Keeps s (setGroup g none (setEntries es s)) :=
          (keeps_setEntries es s).trans (keeps_setGroup g none _)
        dsimp only
        split
        · exact hbook
        · exact keeps_requestRun hbook

theorem keeps_workGroupDiscard (b : List Byte) (s : State) : Keeps s (workGroupDiscard b s).2 := by
  refine .checked ?_
  split
  · exact .refl s
  · split
    · exact .refl s
    · exact keeps_setGroup _ _ s

theorem keeps_workReserveCall (b : List Byte) (s : State) : Keeps s (workReserveCall b s).2 :=
  .checked (.checked (.checked (.of_outer (by simp))))

theorem keeps_workManualTarget (b : List Byte) (s : State) : Keeps s (workManualTarget b s).2 :=
  .checked (.checked (.checked (.of_outer (by simp))))

@[simp] theorem outer_releaseHeldOut (t : Train) (s : State) : outerPart (releaseHeldOut t s) = outerPart s := by
  unfold releaseHeldOut
  dsimp only
  split <;> simp

@[simp] theorem outer_holdOut (t : Train) (s : State) : outerPart (holdOut t s) = outerPart s := by
  unfold holdOut
  dsimp only
  split <;> simp

@[simp] theorem outer_leaveWithoutCause (t : Train) (st : TrainState) (s : State) :
    outerPart (leaveWithoutCause t st s) = outerPart s := by simp [leaveWithoutCause]

@[simp] theorem outer_acceptedStop (t : Train) (s : State) : outerPart (acceptedStop t s) = outerPart s := by
  unfold acceptedStop
  dsimp only
  split
  · split <;> simp
  · split <;> simp

theorem keeps_workTrainStart (t : Train) (s : State) : Keeps s (workTrainStart t s).2 :=
  .checked (.checked (.checked (.checked (.checked (.of_outer (by simp))))))

theorem keeps_workTrainStop (t : Train) (s : State) : Keeps s (workTrainStop t s).2 :=
  .checked (.checked (.checked (.of_outer (outer_acceptedStop t s))))

theorem keeps_workTrainLock (t : Train) (s : State) : Keeps s (workTrainLock t s).2 := by
  have hleave : Keeps s (leaveWithoutCause t .offline (releaseHeldOut t s)) := .of_outer (by simp)
  unfold workTrainLock
  split
  case h_5 | h_6 => exact hleave
  case h_7 =>
    split
    · exact hleave
    · exact .refl s
  all_goals exact .refl s

theorem keeps_workTrainUnlock (t : Train) (s : State) : Keeps s (workTrainUnlock t s).2 := by
  unfold workTrainUnlock
  split
  · exact .refl s
  · split
    · exact .of_outer (by simp)
    · exact .refl s

theorem keeps_workTrainReset (t : Train) (s : State) : Keeps s (workTrainReset t s).2 := by
  unfold workTrainReset
  split
  · exact .of_outer (outer_leaveWithoutCause t .cold s)
  · exact .refl s

theorem keeps_workModuleService (b : List Byte) (s : State) : Keeps s (workModuleService b s).2 := by
  refine .checked ?_
  split
  · exact .refl s
  · dsimp only
    split
    · exact .refl s
    · exact .of_outer (by simp)

theorem keeps_workHeatPreset (b : List Byte) (s : State) : Keeps s (workHeatPreset b s).2 := by
  refine .checked (.checked ?_)
  split
  · exact .refl s
  · exact .checked (.of_outer (by simp))

theorem keeps_workTripListClear (s : State) : Keeps s (workTripListClear s).2 := .of_states rfl rfl rfl rfl (fun _ => rfl)

theorem keeps_workAlarmClear (b : List Byte) (s : State) : Keeps s (workAlarmClear b s).2 := .checked (.of_link rfl)

theorem keeps_workAlarmMaskSet (b : List Byte) (s : State) : Keeps s (workAlarmMaskSet b s).2 := .checked (.of_link rfl)

/-! ## Mode changes, time and the working set -/

theorem keeps_operateEntry (s : State) : Keeps s (operateEntry s) :=
  keeps_requestRun (.form (.trans (t := dropBelowHorizon (setMask (defaultMask s.ws) (setMode .operate s)))
    (.of_entries rfl rfl) (.of_outer (outer_clockEntersOperate _))))

theorem keeps_manualEntry (s : State) : Keeps s (manualEntry s) :=
  .form (.trans (t := setMode .manual s) (.of_entries rfl rfl) (.of_outer (by simp)))

theorem keeps_manualReturn (s : State) : Keeps s (manualReturn s) :=
  .form (.trans (t := setMode .operate s) (.of_entries rfl rfl) (.of_outer (by simp)))

@[simp] theorem outer_heatEntersSetup (s : State) : outerPart (heatEntersSetup s) = outerPart s := by
  simp only [heatEntersSetup, outer_sendValves]
  rfl

theorem stands_bookEntersSetup (s : State) : Stands s (projEntersSetup (bookEntersSetup s)) := .of_entries rfl rfl

/-- Entry into SETUP: the measurement unit and the amendment groups alone are written beside the outer part and the mode. -/
theorem keeps_setupEntry (s : State) : Keeps s (setupEntry s) := by
  have hmode : Stands s (measEntersSetup (setMode .setup s)) := .of_entries rfl rfl
  have hheat := hmode.trans (.of_outer (outer_heatEntersSetup _))
  have hbook := hheat.trans (stands_bookEntersSetup _)
  exact .form (hbook.trans (.of_outer (by simp)))

theorem keeps_leaveSetup (s : State) : Keeps s (leaveSetup s).2 := by
  refine .checked ?_
  split
  · exact .refl s
  · exact .worked (keeps_operateEntry s)

theorem keeps_workModeSet (b : List Byte) (s : State) : Keeps s (workModeSet b s).2 := by
  refine .checked ?_
  split
  · exact .refl s
  · split
    case h_4 => exact keeps_leaveSetup s
    case h_6 => exact .worked (keeps_manualEntry s)
    case h_7 => exact .worked (keeps_manualReturn s)
    case h_8 | h_9 => exact .checked (.worked (keeps_setupEntry s))
    all_goals exact .refl s

theorem keeps_workTimeSet (b : List Byte) (s : State) : Keeps s (workTimeSet b s).2 := by
  have htime (c : ClockState) : Keeps s (keepHorizon (setClock c s)) := .of_states rfl rfl rfl rfl (fun _ => rfl)
  refine .checked (.checked (.checked ?_))
  dsimp only [acceptTime]
  split
  · exact htime _
  · exact keeps_requestRun (htime _)

/-- A write of any setting but an action leaves the actions (8.2). -/
theorem settingPut_action (w : WorkingSet) {x : Setting} (v : Int) (h : ∀ e, x ≠ .action e) :
    (settingPut w x v).action = w.action := by
  cases x
  case action e => exact absurd rfl (h e)
  all_goals rfl

theorem keeps_writeSet {w : WorkingSet} {s : State} (h : w.action = s.ws.action) : Keeps s (writeSet w s) :=
  .of_states rfl rfl rfl h (fun _ => rfl)

theorem stands_writeSet (w : WorkingSet) (s : State) : Stands s (writeSet w s) := .of_entries rfl rfl

theorem keeps_disableEntry {s t : State} (h : Stands s t) (e : ProtEntry) : Keeps s (disableEntry e t) :=
  .laterStages (h.trans (.setEntryRec disabledRec_latched)) _

/-- An accepted write: an action, and every other setting of the protection table, ends with a formation of the permit lines
(R142, R166). -/
theorem keeps_writeSetting (x : Setting) (v : Int) (s : State) : Keeps s (writeSetting x v s) := by
  have hstands : Stands s (writeSet (settingPut s.ws x (storedValue x v)) s) := stands_writeSet _ s
  unfold writeSetting settingEffect
  split
  next m =>
    have hwrite := keeps_writeSet (settingPut_action s.ws (x := .capacity m) (storedValue (.capacity m) v) (by simp))
    exact hwrite.trans (.of_outer (outer_setModule _ _ _))
  next =>
    have hwrite := keeps_writeSet (settingPut_action s.ws (x := .intervalLength) (storedValue .intervalLength v) (by simp))
    split
    · exact hwrite
    · exact hwrite.trans (.of_states rfl rfl rfl rfl (fun _ => rfl))
  next e =>
    split
    · exact .form hstands
    · exact keeps_disableEntry hstands e
  case h_11 haction => exact keeps_writeSet (settingPut_action _ _ haction)
  all_goals exact .form hstands

theorem keeps_workConfigPut (b : List Byte) (s : State) : Keeps s (workConfigPut b s).2 := by
  refine .checked ?_
  split
  · exact .refl s
  · exact .checked (.checked (.checked (keeps_writeSetting _ _ s)))

theorem putNode_action (w : WorkingSet) (map i j : Nat) (v : Int) : (putNode w map i j v).action = w.action := by
  unfold putNode
  split <;> rfl

theorem keeps_workMapPut (b : List Byte) (s : State) : Keeps s (workMapPut b s).2 :=
  .checked (.checked (.checked (.checked (keeps_writeSet (putNode_action _ _ _ _ _)))))

theorem keeps_workConfigSave (s : State) : Keeps s (workConfigSave s).2 := .checked (.of_states rfl rfl rfl rfl (fun _ => rfl))
/-! ## The commands -/

/-- Every command but PROT_RECOVER, the supply and the lines acts on a running part alone, and `Keeps`. -/
theorem exec_keeps {c : Instr} (hline : drivesALine c = false) (hrecover : c ≠ .protRecover) :
    ∃ f : State → State, (∀ s, exec c s = whenRunning f s) ∧ ∀ s, Keeps s (f s) := by
  cases c with
  | powerOn | powerLoss | resetInFall | resetInRise | esdInChange high => cases hline
  | protRecover => exact absurd rfl hrecover
  | linkFrameRx l bs => exact ⟨_, fun _ => rfl, keeps_feedAll l bs⟩
  | frameGapTimeout l bs => exact ⟨_, fun _ => rfl, fun s => (keeps_gap l s).trans (keeps_feedAll l bs _)⟩
  | sofDetected l lenHigh lenLow => exact ⟨_, fun _ => rfl, keeps_feedAll l [sof, lenHigh, lenLow]⟩
  | fieldFrameDiscard =>
    refine ⟨_, fun _ => rfl, fun s => ?_⟩
    split
    · split
      · exact .refl s
      · exact .of_link rfl
    · exact .refl s
  | hostBadKind =>
    refine ⟨_, fun _ => rfl, fun s => ?_⟩
    split
    · split
      · exact .refl s
      · exact keeps_sendReply _ (refuse .badKind s)
    · exact .refl s
  | scan =>
    refine ⟨_, fun _ => rfl, fun s => ?_⟩
    split
    · exact .ite ((keeps_takeScan _ s).trans (.of_link rfl))
    · exact .refl s
  | sensorSuspect p =>
    exact ⟨_, fun _ => rfl, fun s => .ite ((keeps_setMeas _ s).trans (.of_outer (outer_raiseAlarm _ _)))⟩
  | transducerReturnGood p => exact ⟨_, fun _ => rfl, fun s => .ite (keeps_setMeas _ s)⟩
  | windowExit t => exact ⟨_, fun _ => rfl, fun s => .ite (.of_outer (outer_windowExit t s))⟩
  | balanceUpdate => exact ⟨_, fun _ => rfl, fun s => .ite (.of_outer (outer_balanceDue s))⟩
  | mark => exact ⟨_, fun _ => rfl, keeps_takeMark⟩
  | fieldLossBegin => exact ⟨_, fun _ => rfl, fun s => .ite (keeps_setMeas _ s)⟩
  | boundary => exact ⟨_, fun _ => rfl, fun s => .ite (.of_outer (outer_boundary s))⟩
  | rejoinRampEnd => exact ⟨_, fun _ => rfl, fun s => .ite (.of_outer (outer_rejoinEnd s))⟩
  | undelivered sd => exact ⟨_, fun _ => rfl, fun s => .ite (.of_outer (outer_undelivered sd s))⟩
  | startTimeout t => exact ⟨_, fun _ => rfl, fun s => .ite (.of_outer (by simp))⟩
  | stopTimeout t => exact ⟨_, fun _ => rfl, fun s => .ite (.of_outer (by simp))⟩
  | warmHoldExpiry t => exact ⟨_, fun _ => rfl, fun s => .ite (.of_outer (by simp))⟩
  | stopNewest sd => exact ⟨_, fun _ => rfl, fun s => .ite (.of_outer (by simp))⟩
  | tripCountClear e => exact ⟨_, fun _ => rfl, fun s => .ite (keeps_clearTripCount e s)⟩
  | protDelayExpiry e => exact ⟨_, fun _ => rfl, fun s => .ite (keeps_protArrival [e] s)⟩
  | protRecoveryDelayExpiry e => exact ⟨_, fun _ => rfl, fun s => .ite (keeps_protArrival [e] s)⟩
  | projectionRunComplete =>
    refine ⟨_, fun _ => rfl, fun s => ?_⟩
    split
    · exact .of_outer (by simp)
    · exact .refl s
  | configSaveComplete crc => exact ⟨_, fun _ => rfl, fun s => .ite (.of_states rfl rfl rfl rfl (fun _ => rfl))⟩
  | statusRead | measRead | heatRead | trainRead | slotRead | dispatchRead | protRead | tripListRead | mapRead =>
    exact ⟨_, fun _ => rfl, keeps_read _ _⟩
  | bookRead => exact ⟨_, fun _ => rfl, .answer keeps_workBookRead⟩
  | linkRead => exact ⟨_, fun _ => rfl, .answer keeps_workLinkRead⟩
  | entryPut => exact ⟨_, fun _ => rfl, .answer keeps_workEntryPut⟩
  | entryDrop => exact ⟨_, fun _ => rfl, .answer keeps_workEntryDrop⟩
  | groupOpen => exact ⟨_, fun _ => rfl, .answer (.bare keeps_workGroupOpen)⟩
  | groupAdd => exact ⟨_, fun _ => rfl, .answer keeps_workGroupAdd⟩
  | groupLaunch => exact ⟨_, fun _ => rfl, .answer keeps_workGroupLaunch⟩
  | groupDiscard => exact ⟨_, fun _ => rfl, .answer keeps_workGroupDiscard⟩
  | reserveCall => exact ⟨_, fun _ => rfl, .answer keeps_workReserveCall⟩
  | manualTarget => exact ⟨_, fun _ => rfl, .answer keeps_workManualTarget⟩
  | trainStart => exact ⟨_, fun _ => rfl, .answer (.trainRequest keeps_workTrainStart)⟩
  | trainStop => exact ⟨_, fun _ => rfl, .answer (.trainRequest keeps_workTrainStop)⟩
  | trainLock => exact ⟨_, fun _ => rfl, .answer (.trainRequest keeps_workTrainLock)⟩
  | trainUnlock => exact ⟨_, fun _ => rfl, .answer (.trainRequest keeps_workTrainUnlock)⟩
  | trainReset => exact ⟨_, fun _ => rfl, .answer (.trainRequest keeps_workTrainReset)⟩
  | moduleService => exact ⟨_, fun _ => rfl, .answer keeps_workModuleService⟩
  | heatPreset => exact ⟨_, fun _ => rfl, .answer keeps_workHeatPreset⟩
  | tripListClear => exact ⟨_, fun _ => rfl, .answer (.bare keeps_workTripListClear)⟩
  | alarmClear => exact ⟨_, fun _ => rfl, .answer keeps_workAlarmClear⟩
  | alarmMaskSet => exact ⟨_, fun _ => rfl, .answer keeps_workAlarmMaskSet⟩
  | modeSet => exact ⟨_, fun _ => rfl, .answer keeps_workModeSet⟩
  | timeSet => exact ⟨_, fun _ => rfl, .answer keeps_workTimeSet⟩
  | configPut => exact ⟨_, fun _ => rfl, .answer keeps_workConfigPut⟩
  | mapPut => exact ⟨_, fun _ => rfl, .answer keeps_workMapPut⟩
  | configSave => exact ⟨_, fun _ => rfl, .answer (.bare keeps_workConfigSave)⟩

/-- A command that acts on a running part alone answers its effect, or the state as it was. -/
theorem whenRunning_cases {f : State → State} {s t : State} (h : whenRunning f s = .next t) :
    (running s = true ∧ t = f s) ∨ (running s = false ∧ t = s) := by
  unfold whenRunning at h
  cases h
  cases running s with
  | true => exact .inl ⟨rfl, rfl⟩
  | false => exact .inr ⟨rfl, rfl⟩

/-- A change of ESD_IN evaluates ESD alone, and only while the part runs (R153). -/
theorem keeps_esdInChange {high : Bool} {s t : State} (h : exec (.esdInChange high) s = .next t) :
    Keeps s t := by
  have hlevel : Keeps s { s with esdIn := high } := .of_states rfl rfl rfl rfl (fun _ => rfl)
  change Host.Outcome.next (if running s then esdLevel high s else { s with esdIn := high }) = .next t at h
  cases h
  split
  · unfold esdLevel
    split
    · exact .refl s
    · exact hlevel.trans (keeps_protArrival [.esd] _)
  · exact hlevel

/-- Settles O51: every command but a start-up and PROT_RECOVER keeps LATCHED entries. -/
theorem latchedIsLeftByRecoveryAlone : Obligations.LatchedIsLeftByRecoveryAlone := by
  intro c s t e hexec he hrecover hpower hrise
  cases hline : drivesALine c with
  | false =>
    obtain ⟨f, hf, hkeeps⟩ := exec_keeps hline hrecover
    rw [hf] at hexec
    rcases whenRunning_cases hexec with ⟨-, rfl⟩ | ⟨-, rfl⟩
    · exact (hkeeps s).stands.latched e he
    · exact he
  | true =>
    cases c with
    | powerOn => exact absurd rfl hpower
    | resetInRise => exact absurd rfl hrise
    | powerLoss | resetInFall => cases hexec; exact he
    | esdInChange high => exact (keeps_esdInChange hexec).stands.latched e he
    | _ => cases hline

/-! ## The permit lines over a step -/

theorem permitsFollow_iff_formed {s : State} (h : running s = true) : PermitsFollowTheTable s ↔ Formed s := by
  simp only [PermitsFollowTheTable, Formed, h, if_pos]

theorem permitsFollow_held {s : State} (h : running s = false) : PermitsFollowTheTable s ↔ s.permits = .both false := by
  simp [PermitsFollowTheTable, h]

theorem Keeps.permitsFollow {s t : State} (h : Keeps s t) (hrun : running s = true) (hs : PermitsFollowTheTable s) :
    PermitsFollowTheTable t :=
  (permitsFollow_iff_formed (h.stands.running.trans hrun)).mpr (h.formed ((permitsFollow_iff_formed hrun).mp hs))

theorem running_loadImage (s : State) : running (loadImage s) = s.resetIn := by
  unfold loadImage
  split <;> rfl

/-- Start-up ends with the evaluation of ESD, and so with a formation of the permit lines (R169). -/
theorem permitsFollow_startUp {s : State} (h : s.resetIn = true) : PermitsFollowTheTable (startUp s) :=
  (permitsFollow_iff_formed ((running_of_far (far_protArrival [.esd] (loadImage s))).trans
    ((running_loadImage s).trans h))).mpr (formed_laterStages _ _)

/-- A PROT_RECOVER that is not refused ends with a formation of the permit lines (R155). -/
theorem formed_workProtRecover (b : List Byte) {s : State} (h : Formed s) : Formed (workProtRecover b s).2 := by
  unfold workProtRecover
  split
  · exact h
  · split
    · exact formed_laterStages _ _
    · exact h

theorem far_recoverNamed (es : List ProtEntry) (s : State) : farPart (recoverNamed es s) = farPart s :=
  (far_laterStages _ _).trans (inOrder_keeps farPart recoverEntry (fun _ _ => rfl) _ s)

theorem running_workProtRecover (b : List Byte) (s : State) : running (workProtRecover b s).2 = running s := by
  unfold workProtRecover
  split
  · rfl
  · split
    · exact running_of_far (far_recoverNamed _ s)
    · rfl

theorem permitsFollow_answer {k : Byte} {work : List Byte → State → Worked} {s : State} (hrun : running s = true)
    (hwork : ∀ b, running (work b s).2 = running s) (hformed : ∀ b, Formed s → Formed (work b s).2)
    (hs : PermitsFollowTheTable s) : PermitsFollowTheTable (answer k work s) := by
  unfold answer
  split
  next f _ _ =>
    split
    · exact (keeps_sendReply f _).permitsFollow ((hwork f.body).trans hrun)
        ((permitsFollow_iff_formed ((hwork f.body).trans hrun)).mpr
          (hformed f.body ((permitsFollow_iff_formed hrun).mp hs)))
    · exact hs
  next => exact hs

theorem permitsFollow_protRecover {s t : State} (h : exec .protRecover s = .next t) (hs : PermitsFollowTheTable s) :
    PermitsFollowTheTable t := by
  rcases whenRunning_cases (f := answer 0x2C workProtRecover) h with ⟨hrun, rfl⟩ | ⟨-, rfl⟩
  · exact permitsFollow_answer hrun (fun b => running_workProtRecover b s) (fun b => formed_workProtRecover b) hs
  · exact hs

/-- Power applied while the lines are low: start-up forms them, and RESET_IN low leaves them low. -/
theorem permitsFollow_supplied {s : State} (hlow : s.permits = .both false) :
    PermitsFollowTheTable
      (if s.resetIn then startUp { s with power := true } else { s with power := true }) := by
  split
  · exact permitsFollow_startUp ‹_›
  next hreset => exact (permitsFollow_held (by simp [running, hreset])).mpr hlow

/-- The lines are low without supply, and a loss of the supply drops them (log entry 18). -/
theorem permitsFollow_powerOn {s : State} (hs : PermitsFollowTheTable s) : PermitsFollowTheTable (powerOn s) := by
  cases hpower : s.power with
  | true =>
    rw [powerOn, hpower]
    exact permitsFollow_supplied (s := abandon s) rfl
  | false =>
    have hlow := (permitsFollow_held (by simp [running, hpower])).mp hs
    rw [powerOn, hpower]
    exact permitsFollow_supplied hlow

theorem permitsFollow_resetInRise {s : State} (hs : PermitsFollowTheTable s) : PermitsFollowTheTable (resetInRise s) := by
  unfold resetInRise
  split
  · exact hs
  next hreset =>
    have hlow : s.permits = .both false := (permitsFollow_held (by simp [running, hreset])).mp hs
    split
    · exact permitsFollow_startUp rfl
    next hpower => exact (permitsFollow_held (by simp [running, hpower])).mpr hlow

/-- A fall of RESET_IN and a loss of the supply drop both lines (R169; log entry 18). -/
theorem permitsFollow_abandon {s t : State} (hrun : running t = false) (h : t.permits = (abandon s).permits) :
    PermitsFollowTheTable t := (permitsFollow_held hrun).mpr h

theorem permitsFollow_esdInChange {high : Bool} {s t : State} (h : exec (.esdInChange high) s = .next t)
    (hs : PermitsFollowTheTable s) : PermitsFollowTheTable t := by
  cases hrun : running s with
  | true => exact (keeps_esdInChange h).permitsFollow hrun hs
  | false =>
    rw [exec, execEsdInChange, hrun] at h
    cases h
    exact (permitsFollow_held hrun).mpr ((permitsFollow_held hrun).mp hs)

/-- Every command keeps the permit lines at the levels of R150, and low while the part does not run. -/
theorem permitsFollow_exec {c : Instr} {s t : State} (h : exec c s = .next t) (hs : PermitsFollowTheTable s) :
    PermitsFollowTheTable t := by
  cases hline : drivesALine c with
  | false =>
    by_cases hrecover : c = .protRecover
    · subst hrecover
      exact permitsFollow_protRecover h hs
    · obtain ⟨f, hf, hkeeps⟩ := exec_keeps hline hrecover
      rw [hf] at h
      rcases whenRunning_cases h with ⟨hrun, rfl⟩ | ⟨-, rfl⟩
      · exact (hkeeps s).permitsFollow hrun hs
      · exact hs
  | true =>
    cases c with
    | powerOn =>
      cases h
      exact permitsFollow_powerOn hs
    | resetInRise =>
      cases h
      exact permitsFollow_resetInRise hs
    | powerLoss =>
      cases h
      exact permitsFollow_abandon (s := s) rfl rfl
    | resetInFall =>
      cases h
      exact permitsFollow_abandon (s := s) (by simp [running]) rfl
    | esdInChange high => exact permitsFollow_esdInChange h hs
    | _ => cases hline

/-- Settles O52: a step is a command on the state with the rest of the queue, which the lines do not rest on. -/
theorem permitLinesFollowTheTable : Obligations.PermitLinesFollowTheTable := by
  intro s t hs hstep
  unfold step at hstep
  split at hstep
  next c cs _ => exact permitsFollow_exec (s := { s with pending := cs }) hstep hs
  next =>
    cases hstep
    exact hs

end Sys2Proof.Machine
end

section
/-! PROOF. What the later stages of an arrival at the protection unit (R144) do not undo: the alarms latched by then, the modules
isolated by then, and a train tripped by then. One predicate, `Effects.Hold`, is carried through the heat store unit, the train
sequencer and the dispatch clock. With it the statements about ESD_IN, the two expiries and PROT_RECOVER. -/
namespace Sys2Proof.Machine

/-! ## The predicate -/

/-- What an arrival has brought about: the latched alarms, the isolated modules, and a tripped train with its cause. -/
structure Effects where
  alarms : Word16
  isolated : HeatModule → Prop
  tripped : Option (Train × TripCause)

/-- The effects stand in a state; the tripped train is in no start-order list, so no stop of a side reaches it. -/
structure Effects.Hold (k : Effects) (s : State) : Prop where
  alarms : s.link.alarms = k.alarms
  isolated : ∀ m, (s.heat.modules.get m).role = .isolated ↔ k.isolated m
  tripped : ∀ x c, k.tripped = some (x, c) →
    (s.seq.trains.get x).state = .tripped ∧ (s.seq.trains.get x).cause = c ∧ ∀ sd, x ∉ (s.seq.sides.get sd).order

/-- A train is not the one that the effects hold tripped. -/
def Effects.Spares (k : Effects) (t : Train) : Prop := ∀ x c, k.tripped = some (x, c) → x ≠ t

namespace Effects.Hold

variable {k : Effects} {s t : State}

theorem spares_of_state (h : k.Hold s) {u : Train} (hu : (s.seq.trains.get u).state ≠ .tripped) : k.Spares u := by
  rintro x c hx rfl
  exact hu (h.tripped x c hx).1

theorem spares_of_mem (h : k.Hold s) {u : Train} {sd : Side} (hu : u ∈ (s.seq.sides.get sd).order) : k.Spares u := by
  rintro x c hx rfl
  exact (h.tripped x c hx).2.2 sd hu

/-- A write of none of the fields that the effects rest on. -/
theorem of_parts (h : k.Hold s) (halarms : t.link.alarms = s.link.alarms)
    (hroles : ∀ m, (t.heat.modules.get m).role = .isolated ↔ (s.heat.modules.get m).role = .isolated)
    (htrains : t.seq.trains = s.seq.trains) (hsides : t.seq.sides = s.seq.sides) : k.Hold t :=
  ⟨halarms.trans h.alarms, fun m => (hroles m).trans (h.isolated m), by rw [htrains, hsides]; exact h.tripped⟩

/-- A write that leaves the heat store unit and the train sequencer. -/
theorem of_units (h : k.Hold s) (halarms : t.link.alarms = s.link.alarms) (hheat : t.heat = s.heat) (hseq : t.seq = s.seq) :
    k.Hold t := h.of_parts halarms (fun m => by rw [hheat]) (by rw [hseq]) (by rw [hseq])

theorem foldl {α : Type} {f : State → α → State} (hf : ∀ s x, k.Hold s → k.Hold (f s x)) (l : List α) (h : k.Hold s) :
    k.Hold (l.foldl f s) := by
  induction l generalizing s with
  | nil => exact h
  | cons x l ih => exact ih (hf s x h)

end Effects.Hold

section

variable {k : Effects} {s : State}

/-! ## The heat store unit -/

theorem hold_requestRun (h : k.Hold s) : k.Hold (requestRun s) :=
  h.of_units (by rw [requestRun_link]) (requestRun_heat s) (requestRun_seq s)

/-- A module record replaced by one that is ISOLATED exactly where it was. -/
theorem hold_setModule {m : HeatModule} {r : ModuleRec} (h : k.Hold s)
    (hr : r.role = .isolated ↔ (s.heat.modules.get m).role = .isolated) : k.Hold (setModule m r s) := by
  refine h.of_parts rfl (fun n => ?_) rfl rfl
  rw [setModule_heat]
  by_cases hn : n = m
  · subst hn
    rw [PerModule.get_set_self]
    exact hr
  · rw [PerModule.get_set_ne _ _ hn]

theorem hold_sendField (kind : Byte) (body : List Byte) (h : k.Hold s) : k.Hold (sendField kind body s) :=
  h.of_units rfl rfl rfl

theorem hold_sendValve (m : HeatModule) (h : k.Hold s) : k.Hold (sendValve m s) := by
  unfold sendValve
  dsimp only
  split
  · exact h
  · exact hold_sendField _ _ (hold_setModule h Iff.rfl)

/-- New sets leave a module ISOLATED exactly where it was (R46). -/
theorem roleUnder_isolated_iff (sets : PerSide (List HeatModule)) (m : HeatModule) (r : ModuleRec) :
    roleUnder sets m r = .isolated ↔ r.role = .isolated := by
  unfold roleUnder
  split
  · simp only [*]
  · split
    · simp only [*, reduceCtorEq]
    · split <;> simp only [*, reduceCtorEq]

theorem hold_formSets (h : k.Hold s) : k.Hold (formSets s) :=
  h.of_parts rfl (fun m => by
    simp only [formSets, formNoHeatSink, PerModule.get_ofFn]
    exact roleUnder_isolated_iff _ _ _) rfl rfl

theorem hold_roleEvaluation (h : k.Hold s) : k.Hold (roleEvaluation s) :=
  .foldl (fun _ m h => hold_sendValve m h) _ (hold_formSets h)

theorem hold_takeTrainStates (h : k.Hold s) : k.Hold (takeTrainStates s) := by
  unfold takeTrainStates
  dsimp only
  split
  · exact h
  · exact hold_roleEvaluation (h.of_parts rfl (fun _ => Iff.rfl) rfl rfl)

/-! ## The train sequencer -/

/-- A write of a train's record that keeps its state and its cause. -/
theorem hold_setTrain {u : Train} {r : TrainRec} (h : k.Hold s) (hstate : r.state = (s.seq.trains.get u).state)
    (hcause : r.cause = (s.seq.trains.get u).cause) : k.Hold (setTrain u r s) := by
  refine ⟨h.alarms, h.isolated, fun x c hx => ?_⟩
  obtain ⟨htripped, hc, hlist⟩ := h.tripped x c hx
  have hrec : ((setTrain u r s).seq.trains.get x).state = (s.seq.trains.get x).state ∧
      ((setTrain u r s).seq.trains.get x).cause = (s.seq.trains.get x).cause := by
    by_cases hxu : x = u
    · subst hxu
      simp [setTrain, hstate, hcause]
    · simp [setTrain, PerTrain.get_set_ne _ _ hxu]
  exact ⟨hrec.1.trans htripped, hrec.2.trans hc, hlist⟩

/-- A write of a side that lists no train it did not list. -/
theorem hold_setSide {sd : Side} {x : SeqSide} (h : k.Hold s)
    (hsub : ∀ t ∈ x.order, t ∈ (s.seq.sides.get sd).order) : k.Hold (setSide sd x s) := by
  refine ⟨h.alarms, h.isolated, fun u c hu => ?_⟩
  obtain ⟨htripped, hc, hlist⟩ := h.tripped u c hu
  refine ⟨htripped, hc, fun sd' hmem => ?_⟩
  by_cases hsd : sd' = sd
  · subst hsd
    rw [setSide, PerSide.get_set_self] at hmem
    exact hlist sd' (hsub u hmem)
  · rw [setSide, PerSide.get_set_ne _ _ hsd] at hmem
    exact hlist sd' hmem

theorem hold_setPending (sd : Side) (b : Bool) (h : k.Hold s) : k.Hold (setPending sd b s) := hold_setSide h (fun _ ht => ht)

theorem hold_emit (c : TrainCmd) (h : k.Hold s) : k.Hold (emit c s) := h.of_parts rfl (fun _ => Iff.rfl) rfl rfl

theorem hold_flush (h : k.Hold s) : k.Hold (flush s) :=
  (Effects.Hold.foldl (f := fun s c => sendCommand c s) (fun _ _ h => h.of_units rfl rfl rfl) (commandOrder s.seq.outbox)
    h).of_parts rfl (fun _ => Iff.rfl) rfl rfl

/-- Entry into a state adds the train itself alone to its side's list (R126). -/
theorem mem_listAfter {x u : Train} {st : TrainState} {order : List Train} (h : x ∈ listAfter u st order) :
    x = u ∨ x ∈ order := by
  cases st with
  | starting =>
    rcases List.mem_append.mp h with herase | hlast
    · exact .inr (List.mem_of_mem_erase herase)
    · exact .inl (List.mem_singleton.mp hlast)
  | running => exact .inr h
  | offline | cold | warm | stopping | tripped => exact .inr (List.mem_of_mem_erase h)

/-- Entry into a state is taken by the heat store unit and may request a run, beside the write of the train and its list. -/
theorem enterState_link_heat (u : Train) (st : TrainState) (h : k.Hold s) :
    (enterState u st s).link.alarms = k.alarms ∧
      ∀ m, ((enterState u st s).heat.modules.get m).role = .isolated ↔ k.isolated m := by
  have hfree : Effects.Hold ⟨k.alarms, k.isolated, none⟩ (enterState u st s) := by
    have htrain : Effects.Hold ⟨k.alarms, k.isolated, none⟩ (setTrain u (enteredRec st (s.seq.trains.get u)) s) :=
      ⟨h.alarms, h.isolated, nofun⟩
    have hside (x : SeqSide) : Effects.Hold ⟨k.alarms, k.isolated, none⟩
        (setSide u.side x (setTrain u (enteredRec st (s.seq.trains.get u)) s)) :=
      ⟨htrain.alarms, htrain.isolated, nofun⟩
    unfold enterState
    dsimp only
    split
    · exact hold_requestRun (hold_takeTrainStates (hside _))
    · exact hold_takeTrainStates (hside _)
  exact ⟨hfree.alarms, hfree.isolated⟩

/-- Entry of a train into a state leaves a tripped train that is another. -/
theorem hold_enterState {u : Train} (st : TrainState) (h : k.Hold s) (hu : k.Spares u) : k.Hold (enterState u st s) := by
  obtain ⟨halarms, hisolated⟩ := enterState_link_heat u st h
  refine ⟨halarms, hisolated, fun x c hx => ?_⟩
  obtain ⟨htripped, hc, hlist⟩ := h.tripped x c hx
  have hne : x ≠ u := hu x c hx
  rw [enterState_other st s hne]
  refine ⟨htripped, hc, fun sd hmem => ?_⟩
  rw [enterState_seq] at hmem
  by_cases hsd : sd = u.side
  · subst hsd
    rw [PerSide.get_set_self] at hmem
    exact (mem_listAfter hmem).elim hne (hlist _)
  · rw [PerSide.get_set_ne _ _ hsd] at hmem
    exact hlist sd hmem

theorem hold_startTrain {u : Train} (h : k.Hold s) (hu : k.Spares u) : k.Hold (startTrain u s) :=
  hold_emit _ (hold_enterState _ (hold_setTrain h rfl rfl) hu)

theorem hold_stopTrain {u : Train} (h : k.Hold s) (hu : k.Spares u) : k.Hold (stopTrain u s) :=
  hold_emit _ (hold_enterState _ h hu)

theorem hold_reportDelivered (sd : Side) (h : k.Hold s) : k.Hold (reportDelivered sd s) := h.of_units rfl rfl rfl

theorem hold_stopAll {l : List Train} (h : k.Hold s) (hl : ∀ t ∈ l, k.Spares t) : k.Hold (stopAll l s) := by
  induction l generalizing s with
  | nil => exact h
  | cons t l ih =>
    exact ih (hold_stopTrain h (hl t List.mem_cons_self)) (fun u hu => hl u (List.mem_cons_of_mem t hu))

theorem hold_floorStop (sd : Side) (n : Nat) (h : k.Hold s) : k.Hold (floorStop sd n s) := by
  induction n generalizing s with
  | zero => exact h
  | succ n ih =>
    rw [floorStop]
    split
    · split
      next t hnewest => exact ih (hold_stopTrain h (h.spares_of_mem (List.mem_of_getLast? hnewest)))
      next => exact h
    · exact h

theorem hold_cancelPending (sd : Side) (h : k.Hold s) : k.Hold (cancelPending sd s) := by
  unfold cancelPending
  split
  · exact h
  · exact hold_setPending sd false h

/-- A train the arbiter's pass takes is in the state the pass looks for (R127). -/
theorem walk_state {st : TrainState} {sd : Side} {n : Nat} {ph ph' : Fin 16} {t : Train}
    (h : walk s st sd n ph = some (ph', t)) : (s.seq.trains.get t).state = st := by
  induction n generalizing ph with
  | zero => cases h
  | succ n ih =>
    rw [walk] at h
    split at h
    · split at h
      next heligible =>
        cases h
        simp only [eligible, Bool.and_eq_true, beq_iff_eq] at heligible
        exact heligible.2.1.1.1
      next => exact ih h
    · exact ih h

/-- The arbiter starts no TRIPPED train (R127). -/
theorem arbiter_not_tripped {sd : Side} {ph : Fin 16} {t : Train} (h : arbiter s sd = some (ph, t)) :
    (s.seq.trains.get t).state ≠ .tripped := by
  unfold arbiter at h
  split at h
  next hwarm =>
    cases h
    rw [walk_state hwarm]
    nofun
  next =>
    rw [walk_state h]
    nofun

theorem hold_startWinner {sd : Side} {t : Train} (ph : Fin 16) (h : k.Hold s) (ht : k.Spares t) :
    k.Hold (startWinner sd ph t s) := hold_startTrain (hold_setSide h (fun _ hu => hu)) ht

theorem hold_askStarts (sd : Side) (n : Nat) (h : k.Hold s) : k.Hold (askStarts sd n s) := by
  induction n generalizing s with
  | zero => exact h
  | succ n ih =>
    rw [askStarts]
    split
    · split
      next ph t hwin => exact ih (hold_startWinner ph h (h.spares_of_state (arbiter_not_tripped hwin)))
      next => exact hold_setPending sd true h
    · exact h

theorem hold_commandLoad (fresh : List Train) (t : Train) (load : Int) (h : k.Hold s) :
    k.Hold (commandLoad fresh t load s) := by
  have hload := hold_setTrain (r := { s.seq.trains.get t with load := load }) h rfl rfl
  unfold commandLoad
  dsimp only
  split
  · exact hload
  · exact hold_emit _ hload

theorem hold_shareSide (fresh : List Train) (sd : Side) (h : k.Hold s) : k.Hold (shareSide fresh sd s) :=
  .foldl (fun _ t h => hold_commandLoad fresh t _ h) _ h

theorem hold_allocate (sd : Side) (h : k.Hold s) : k.Hold (allocate sd s) := by
  unfold allocate
  split
  · exact hold_setPending sd false (hold_stopAll h (fun _ ht => h.spares_of_mem ht))
  · exact hold_askStarts sd _ (hold_cancelPending sd (hold_floorStop sd _ h))

theorem hold_evaluateFresh (fresh : List Train) (sd : Side) (h : k.Hold s) : k.Hold (evaluateFresh fresh sd s) := by
  unfold evaluateFresh
  split
  · exact h
  · exact hold_reportDelivered sd (hold_shareSide fresh sd h)
  · exact hold_reportDelivered sd (hold_shareSide fresh sd (hold_allocate sd h))

theorem hold_evaluateSide (sd : Side) (h : k.Hold s) : k.Hold (evaluateSide sd s) := hold_evaluateFresh [] sd h

theorem hold_retryPending (sd : Side) (h : k.Hold s) : k.Hold (retryPending sd s) := by
  unfold retryPending retried
  split
  · split
    next ph t hwin =>
      exact hold_evaluateFresh [] sd
        (hold_startWinner ph (hold_setPending sd false h) (h.spares_of_state (arbiter_not_tripped hwin)))
    next => exact h
  · exact h

theorem hold_afterChange (sd : Side) (h : k.Hold s) : k.Hold (afterChange sd s) :=
  hold_evaluateSide sd (hold_retryPending sd h)

theorem hold_takeTargets (eff : PerSide Int) (h : k.Hold s) : k.Hold (takeTargets eff s) := by
  have hcharge : k.Hold (setSide .charge { s.seq.sides.charge with target := eff.charge } s) :=
    hold_setSide h (fun _ ht => ht)
  have hboth := hold_setSide (sd := .discharge) (x := { s.seq.sides.discharge with target := eff.discharge }) hcharge
    (fun _ ht => ht)
  exact hold_flush (hold_evaluateSide .discharge (hold_evaluateSide .charge hboth))

theorem hold_seqSidePermit (sd : Side) (level : Bool) (h : k.Hold s) : k.Hold (seqSidePermit sd level s) := by
  have hseen : k.Hold (setSide sd { s.seq.sides.get sd with permitSeen := level } s) := hold_setSide h (fun _ ht => ht)
  have hstopped := hold_setPending sd false
    (hold_stopAll (l := (s.seq.sides.get sd).order) hseen (fun _ ht => h.spares_of_mem ht))
  unfold seqSidePermit
  dsimp only
  split
  · split
    · exact hstopped
    · exact hold_evaluateSide sd hstopped
  · exact hseen

theorem hold_seqTakesPermits (p : PerSide Bool) (h : k.Hold s) : k.Hold (seqTakesPermits p s) :=
  hold_flush (hold_seqSidePermit .discharge _ (hold_seqSidePermit .charge _ h))

/-! ## The dispatch clock and the permit lines -/

theorem hold_formTargets (always : Bool) (h : k.Hold s) : k.Hold (formTargets always s) := by
  unfold formTargets
  dsimp only
  split
  · exact hold_takeTargets _ (h.of_units rfl rfl rfl)
  · exact h

theorem hold_clockTakesPermits (p : PerSide Bool) (h : k.Hold s) : k.Hold (clockTakesPermits p s) :=
  hold_formTargets false (h.of_units rfl rfl rfl)

theorem hold_formPermits (h : k.Hold s) : k.Hold (formPermits s) := by
  have hdriven (p : PerSide Bool) : k.Hold (drawChoice { s with permits := p }) := h.of_units rfl rfl rfl
  unfold formPermits publishPermits
  dsimp only
  split
  · exact h
  · refine hold_requestRun ?_
    split
    · exact hold_seqTakesPermits _ (hold_clockTakesPermits _ (hdriven _))
    · exact hold_clockTakesPermits _ (hold_seqTakesPermits _ (hdriven _))

end

/-! ## The requests of stages 3 and 4, and stage 5 (R150 to R152) -/

/-- The effects of a state, with no train held tripped. -/
def Effects.of (s : State) : Effects := ⟨s.link.alarms, fun m => (s.heat.modules.get m).role = .isolated, none⟩

theorem Effects.hold_of (s : State) : (Effects.of s).Hold s := ⟨rfl, fun _ => Iff.rfl, nofun⟩

/-- A train is TRIPPED with a cause and stands in no start-order list. -/
def TrippedApart (x : Train) (c : TripCause) (s : State) : Prop :=
  (s.seq.trains.get x).state = .tripped ∧ (s.seq.trains.get x).cause = c ∧ ∀ sd, x ∉ (s.seq.sides.get sd).order

/-- The effects of a state in which a train is tripped. -/
theorem TrippedApart.hold {x : Train} {c : TripCause} {s : State} (h : TrippedApart x c s) :
    ({ Effects.of s with tripped := some (x, c) } : Effects).Hold s :=
  ⟨rfl, fun _ => Iff.rfl, fun y d hy => by cases hy; exact h⟩

theorem Effects.Hold.trippedApart {k : Effects} {s : State} (h : k.Hold s) {x : Train} {c : TripCause}
    (hx : k.tripped = some (x, c)) : TrippedApart x c s := h.tripped x c hx

theorem formPermits_alarms (s : State) : (formPermits s).link.alarms = s.link.alarms :=
  (hold_formPermits (Effects.hold_of s)).alarms

theorem formPermits_isolated_iff (m : HeatModule) (s : State) :
    ((formPermits s).heat.modules.get m).role = .isolated ↔ (s.heat.modules.get m).role = .isolated :=
  (hold_formPermits (Effects.hold_of s)).isolated m

theorem TrippedApart.formPermits {x : Train} {c : TripCause} {s : State} (h : TrippedApart x c s) :
    TrippedApart x c (formPermits s) := (hold_formPermits h.hold).trippedApart rfl

/-- An isolation request latches no alarm and leaves its module ISOLATED (R52). -/
theorem isolateModule_effects (m : HeatModule) (s : State) : (isolateModule m s).link.alarms = s.link.alarms ∧
    ((isolateModule m s).heat.modules.get m).role = .isolated := by
  unfold isolateModule
  dsimp only
  split
  next hrole => exact ⟨rfl, hrole⟩
  next =>
    generalize hset : setModule m _ s = s'
    have hhold := hold_requestRun (hold_roleEvaluation (Effects.hold_of s'))
    subst hset
    exact ⟨hhold.alarms.trans rfl, (hhold.isolated m).mpr (by simp [Effects.of])⟩

/-- A release request latches no alarm and leaves its module ISOLATED no longer (R53). -/
theorem releaseModule_effects (m : HeatModule) (s : State) : (releaseModule m s).link.alarms = s.link.alarms ∧
    ((releaseModule m s).heat.modules.get m).role ≠ .isolated := by
  unfold releaseModule
  dsimp only
  split
  next =>
    generalize hset : setModule m _ s = s'
    have hhold := hold_roleEvaluation (hold_requestRun (Effects.hold_of s'))
    subst hset
    exact ⟨hhold.alarms.trans rfl, fun hrole => by simpa [Effects.of] using (hhold.isolated m).mp hrole⟩
  next hrole => exact ⟨rfl, hrole⟩

theorem moduleRequest_alarms (x : ProtEntry × ProtEvent) (s : State) :
    (moduleRequest x s).link.alarms = s.link.alarms := by
  unfold moduleRequest
  split
  · exact (isolateModule_effects _ s).1
  · exact (isolateModule_effects _ s).1
  · exact (releaseModule_effects _ s).1
  · rfl

theorem enterTripped_alarms (t : Train) (c : TripCause) (s : State) :
    (enterTripped t c s).link.alarms = s.link.alarms :=
  (enterState_link_heat t .tripped (Effects.hold_of (setTrain t { s.seq.trains.get t with cause := c } s))).1

/-- A train that enters TRIPPED leaves its side's list (R118, R126). -/
theorem trippedApart_enterTripped {t : Train} {s : State} (c : TripCause) (h : ListsHoldTheirTrains s) :
    TrippedApart t c (enterTripped t c s) := by
  have hseq := enterState_seq t .tripped (setTrain t { s.seq.trains.get t with cause := c } s)
  have hself := enterState_self t .tripped (setTrain t { s.seq.trains.get t with cause := c } s)
  refine ⟨?_, ?_, fun sd hmem => ?_⟩
  · exact congrArg TrainRec.state hself
  · exact (congrArg TrainRec.cause hself).trans (by simp [enteredRec, setTrain])
  · change t ∈ ((enterState t .tripped (setTrain t { s.seq.trains.get t with cause := c } s)).seq.sides.get sd).order at hmem
    rw [hseq] at hmem
    by_cases hsd : sd = t.side
    · subst hsd
      rw [PerSide.get_set_self] at hmem
      exact (h t.side).1.not_mem_erase hmem
    · rw [PerSide.get_set_ne _ _ hsd] at hmem
      exact hsd (((h sd).2 t).mp hmem).1.symm

theorem tripRequest_alarms (t : Train) (latched : Bool) (s : State) :
    (tripRequest t latched s).link.alarms = s.link.alarms := by
  unfold tripRequest
  dsimp only
  split
  · rfl
  · rfl
  all_goals
    exact (hold_flush (hold_afterChange t.side (Effects.hold_of (enterTripped t (requestedCause latched) s)))).alarms.trans
      (enterTripped_alarms _ _ s)

/-- A trip request trips every train that is not OFFLINE, with the cause of the request (R123). -/
theorem trippedApart_tripRequest {t : Train} {s : State} (latched : Bool) (h : ListsHoldTheirTrains s)
    (ht : (s.seq.trains.get t).state ≠ .offline) : TrippedApart t (requestedCause latched) (tripRequest t latched s) := by
  unfold tripRequest
  dsimp only
  split
  next hstate => exact absurd hstate ht
  next hstate =>
    refine ⟨by simpa [setTrain] using hstate, by simp [setTrain], fun sd hmem => ?_⟩
    rcases (((h sd).2 t).mp hmem).2 with hactive | hactive
    · exact absurd (hstate.symm.trans hactive) nofun
    · exact absurd (hstate.symm.trans hactive) nofun
  all_goals
    exact (hold_flush (hold_afterChange t.side
      (trippedApart_enterTripped (requestedCause latched) h).hold)).trippedApart rfl

theorem trainTripRequest_alarms (x : ProtEntry × ProtEvent) (s : State) :
    (trainTripRequest x s).link.alarms = s.link.alarms := by
  unfold trainTripRequest
  split
  · exact tripRequest_alarms _ _ s
  · exact tripRequest_alarms _ _ s
  · rfl

/-- Stages 3 to 5 latch no alarm. -/
theorem laterStages_alarms (xs : List (ProtEntry × ProtEvent)) (s : State) :
    (laterStages xs s).link.alarms = s.link.alarms := by
  rw [laterStages, formPermits_alarms, inOrder_keeps (fun s => s.link.alarms) trainTripRequest trainTripRequest_alarms,
    inOrder_keeps (fun s => s.link.alarms) moduleRequest moduleRequest_alarms]

/-! ## An arrival that carries one entry -/

/-- An enabled entry with a quantity is evaluated on it (R142, R143). -/
theorem evaluation_of {s : State} {e : ProtEntry} {q : Int} (henabled : entryEnabled s.ws e = true)
    (hq : quantity s e = some q) :
    evaluation s e = some (evaluateEntry s.ws s.heat.active.discharge e q (s.prot.entries.get e)) := by
  rw [evaluation, if_pos henabled, hq, Option.map_some]

/-- The five stages for one entry that is evaluated (R144). -/
theorem protArrival_one {s : State} {e : ProtEntry} {r : EntryRec} {ev : ProtEvent} (h : evaluation s e = some (r, ev)) :
    protArrival [e] s = laterStages [(e, ev)] (recordTrip (e, ev) (setEntryRec e r s)) := by
  simp only [protArrival, evaluateAll, h, inOrder]

/-- The event of a trip, by the state it reaches. -/
def tripEvent (latched : Bool) : ProtEvent := if latched then .latched else .tripped

/-- A trip's record and alarm (R144, R154). -/
theorem recordTrip_tripEvent (e : ProtEntry) (latched : Bool) (s : State) :
    recordTrip (e, tripEvent latched) s =
      raiseAlarm (if latched then .protLatch else .protTrip) (appendTrip (tripRecord s e latched) s) := by
  cases latched <;> rfl

/-- A word with the bits of another set has them. -/
theorem or_and_word (w a : Word16) : (w ||| a) &&& a = a := by
  ext i
  simp +contextual

/-- The record of an entry that has just tripped (R147). -/
def trippedRec (latched : Bool) (n : Nat) (q : Int) : EntryRec :=
  ⟨if latched then .latched else .tripped, 0, n, 0, some q⟩

/-- The state after the five stages of a trip of one entry. -/
def afterTrip (e : ProtEntry) (latched : Bool) (n : Nat) (q : Int) (s : State) : State :=
  laterStages [(e, tripEvent latched)]
    (recordTrip (e, tripEvent latched) (setEntryRec e (trippedRec latched n q) s))

/-- The protection unit after a trip: the entry's record, and the trip record at the end of the list (R147, R154). -/
theorem afterTrip_prot (e : ProtEntry) (latched : Bool) (n : Nat) (q : Int) (s : State) :
    (afterTrip e latched n q s).prot.entries = s.prot.entries.set e (trippedRec latched n q) ∧
      (afterTrip e latched n q s).prot.trips.getLast? = some
        ⟨s.prot.seqCounter, e, latched, q, s.clock.timeValid, s.clock.interval, s.clock.mark⟩ ∧
      (afterTrip e latched n q s).prot.seqCounter = s.prot.seqCounter + 1 := by
  have hlast : ((setEntryRec e (trippedRec latched n q) s).prot.entries.get e).last = some q := by
    rw [setEntryRec_self, trippedRec]
  rw [afterTrip, laterStages_prot, recordTrip_tripEvent]
  refine ⟨rfl, ?_, rfl⟩
  simp only [raiseAlarm_prot, appendTrip, tripRecord, hlast, List.getLast?_concat, Option.getD_some]
  rfl

/-- A trip raises its alarm (R144). -/
theorem afterTrip_alarms (e : ProtEntry) (latched : Bool) (n : Nat) (q : Int) (s : State) :
    (afterTrip e latched n q s).link.alarms =
      s.link.alarms ||| (if latched then Alarm.protLatch else Alarm.protTrip).word := by
  rw [afterTrip, laterStages_alarms, recordTrip_tripEvent]
  rfl

theorem far_afterTrip (e : ProtEntry) (latched : Bool) (n : Nat) (q : Int) (s : State) :
    farPart (afterTrip e latched n q s) = farPart s :=
  (far_laterStages _ _).trans ((far_recordTrip _ _).trans rfl)

theorem mem_allEntries (e : ProtEntry) : e ∈ ProtEntry.all := by
  cases e with
  | moduleHot m => cases m <;> decide
  | trainFault t => cases t <;> decide
  | _ => decide

/-- An entry whose action applies holds the lines of the sides it blocks low (R149, R150). -/
theorem permits_low {s : State} (h : Formed s) {e : ProtEntry} {sd : Side}
    (hforce : inForce (s.prot.entries.get e) = true) (hblocks : actionBlocks (entryAction s.ws e) sd = true) :
    s.permits.get sd = false := by
  rw [h, PerSide.get_ofFn, permitLevel, Bool.and_eq_false_iff]
  refine .inr (List.all_eq_false.mpr ⟨e, mem_allEntries e, ?_⟩)
  simp [hforce, hblocks]

/-- After a trip the lines of the sides that the entry blocks are low (R149, R150). -/
theorem afterTrip_permits {e : ProtEntry} {s : State} (latched : Bool) (n : Nat) (q : Int) {sd : Side}
    (h : actionBlocks (entryAction s.ws e) sd = true) : (afterTrip e latched n q s).permits.get sd = false := by
  have hfar := far_afterTrip e latched n q s
  simp only [farPart, Prod.mk.injEq] at hfar
  have hformed : Formed (afterTrip e latched n q s) := formed_laterStages _ _
  refine permits_low hformed (e := e) ?_ (by simpa only [hfar] using h)
  rw [(afterTrip_prot e latched n q s).1, PerEntry.get_set_self]
  cases latched <;> rfl

/-- A trip of a MODULE_HOT entry isolates its module (R151). -/
theorem afterTrip_moduleHot (m : HeatModule) (latched : Bool) (n : Nat) (q : Int) (s : State) :
    ((afterTrip (.moduleHot m) latched n q s).heat.modules.get m).role = .isolated := by
  refine (formPermits_isolated_iff m _).mpr ?_
  cases latched <;> exact (isolateModule_effects m _).2

theorem recordTrip_seq (x : ProtEntry × ProtEvent) (s : State) : (recordTrip x s).seq = s.seq := by
  unfold recordTrip
  split <;> rfl

theorem lists_of_seq {s t : State} (hseq : t.seq = s.seq) (h : ListsHoldTheirTrains s) : ListsHoldTheirTrains t := by
  rw [ListsHoldTheirTrains, hseq]
  exact h

/-- A trip of a TRAIN_FAULT entry trips its train unless it is OFFLINE (R123, R152). -/
theorem afterTrip_trainFault {x : Train} {s : State} (latched : Bool) (n : Nat) (q : Int) (h : ListsHoldTheirTrains s)
    (hx : (s.seq.trains.get x).state ≠ .offline) :
    TrippedApart x (requestedCause latched) (afterTrip (.trainFault x) latched n q s) := by
  have hseq := recordTrip_seq (.trainFault x, tripEvent latched) (setEntryRec (.trainFault x) (trippedRec latched n q) s)
  have htrip := trippedApart_tripRequest (t := x) latched (lists_of_seq hseq h) (by rw [hseq]; exact hx)
  refine TrippedApart.formPermits ?_
  cases latched <;> exact htrip

/-! ## The two expiries (R145, R146) -/

/-- The trip count decides between TRIPPED and LATCHED (R147). -/
theorem tripEntry_eq {limit q : Int} {r : EntryRec} {n : Nat} {latched : Bool} (hlast : r.last = some q)
    (hn : n = min 255 (r.tripCount + 1)) (hlatched : latched = decide (limit ≠ 0 ∧ limit ≤ (n : Int))) :
    tripEntry limit r = (trippedRec latched n q, tripEvent latched) := by
  subst hn
  unfold tripEntry
  dsimp only
  split
  next hlimit =>
    rw [hlatched, decide_eq_true hlimit, hlast]
    rfl
  next hlimit =>
    rw [hlatched, decide_eq_false hlimit, hlast]
    rfl

/-- A PENDING entry trips when its condition has held for its delay (R145). -/
theorem evaluateEntry_pending {w : WorkingSet} {active : Bool} {e : ProtEntry} {q : Int} {r : EntryRec}
    (hstate : r.state = .pending) (hcond : condition w active e q = true) (hdelay : entryDelay w e ≤ (r.evalCount + 1 : Nat)) :
    evaluateEntry w active e q r = tripEntry (entryLatchLimit w e) { r with last := some q } := by
  simp only [evaluateEntry, transition, hstate, hcond, if_pos hdelay, if_true]

/-- A RECOVERING entry returns to NORMAL when its recovery condition has held for its recovery delay (R146). -/
theorem evaluateEntry_recovering {w : WorkingSet} {active : Bool} {e : ProtEntry} {q : Int} {r : EntryRec}
    (hstate : r.state = .recovering) (hrec : recovery w active e q = true)
    (hdelay : entryRecoveryDelay w e ≤ (r.evalCount + 1 : Nat)) :
    evaluateEntry w active e q r = (⟨.normal, 0, r.tripCount, 0, some q⟩, .cleared) := by
  simp only [evaluateEntry, transition, hstate, hrec, if_pos hdelay, if_true, enterProt]

theorem delayDue_of {s : State} {e : ProtEntry} {r : EntryRec} {latched : Bool}
    (hstate : (s.prot.entries.get e).state = .pending) (heval : evaluation s e = some (r, tripEvent latched)) :
    delayDue s e = true := by
  rw [delayDue, hstate, heval]
  cases latched <;> rfl

theorem recoveryDue_of {s : State} {e : ProtEntry} {r : EntryRec} (hstate : (s.prot.entries.get e).state = .recovering)
    (heval : evaluation s e = some (r, .cleared)) : recoveryDue s e = true := by
  rw [recoveryDue, hstate, heval]
  rfl

/-- Settles O48: the entry's evaluation is a trip, and its later stages do not undo what the earlier ones brought. -/
theorem delayExpiryTrips : Obligations.DelayExpiryTrips := by
  intro s e q hrun hlists r n limit latched hstate henabled hq hcond hdelay
  have heval : evaluation s e = some (trippedRec latched n q, tripEvent latched) := by
    rw [evaluation_of henabled hq, evaluateEntry_pending hstate hcond hdelay, tripEntry_eq rfl rfl rfl]
  have hexec : exec (.protDelayExpiry e) s = .next (afterTrip e latched n q s) :=
    (whenRunning_of hrun).trans (congrArg _ ((if_pos (delayDue_of hstate heval)).trans (protArrival_one heval)))
  obtain ⟨hentries, htrips, hcounter⟩ := afterTrip_prot e latched n q s
  have halarms := afterTrip_alarms e latched n q s
  refine ⟨_, hexec, far_afterTrip e latched n q s, hentries, htrips, hcounter, ?alarm,
    fun sd => afterTrip_permits latched n q, ?isolated, ?tripped⟩
  case alarm =>
    rw [halarms]
    cases latched <;> exact or_and_word _ _
  case isolated =>
    rintro m rfl
    exact afterTrip_moduleHot m latched n q s
  case tripped =>
    rintro x rfl hx
    obtain ⟨htripped, hcause, -⟩ := afterTrip_trainFault latched n q hlists hx
    exact ⟨htripped, hcause⟩

/-- Settles O49: the entry's evaluation is a return to NORMAL, which makes no record. -/
theorem recoveryDelayReturnsToNormal : Obligations.RecoveryDelayReturnsToNormal := by
  intro s e q hrun r hstate henabled hq hrec hdelay
  have heval : evaluation s e = some (⟨.normal, 0, r.tripCount, 0, some q⟩, .cleared) := by
    rw [evaluation_of henabled hq, evaluateEntry_recovering hstate hrec hdelay]
  have hexec : exec (.protRecoveryDelayExpiry e) s =
      .next (laterStages [(e, .cleared)] (setEntryRec e ⟨.normal, 0, r.tripCount, 0, some q⟩ s)) :=
    (whenRunning_of hrun).trans (congrArg _ ((if_pos (recoveryDue_of hstate heval)).trans (protArrival_one heval)))
  refine ⟨_, hexec, (far_laterStages _ _).trans rfl, laterStages_prot _ _, formed_laterStages _ _, ?_⟩
  rintro m rfl
  exact fun hrole => (releaseModule_effects m _).2 ((formPermits_isolated_iff m _).mp hrole)

/-! ## ESD_IN (R153) -/

/-- ESD is always enabled, and its quantity is 1 while the line is low (R153). -/
theorem evaluation_esd (s : State) : evaluation s .esd =
    some (evaluateEntry s.ws s.heat.active.discharge .esd (if s.esdIn then 0 else 1) (s.prot.entries.get .esd)) := by
  refine evaluation_of rfl ?_
  cases h : s.esdIn <;> simp [quantity, flagCode, h]

/-- The low line trips a NORMAL ESD into LATCHED at once: its delay is 0 and its latch limit 1 (R153). -/
theorem evaluateEntry_esd_low {w : WorkingSet} {active : Bool} {r : EntryRec} (h : r.state = .normal) :
    evaluateEntry w active .esd 1 r = (trippedRec true (min 255 (r.tripCount + 1)) 1, tripEvent true) := by
  have htrip : evaluateEntry w active .esd 1 r = tripEntry 1 { r with last := some 1 } := by
    simp [evaluateEntry, transition, h, condition, entryDelay, entryLatchLimit]
  have hlimit : (1 : Int) ≠ 0 ∧ (1 : Int) ≤ ((min 255 (r.tripCount + 1) : Nat) : Int) := by omega
  exact htrip.trans (tripEntry_eq rfl rfl (decide_eq_true hlimit).symm)

/-- A LATCHED ESD, and a NORMAL one under the high line, take the last value alone (R147, R153). -/
theorem evaluateEntry_esd_quiet {w : WorkingSet} {active : Bool} {r : EntryRec} {q : Int}
    (h : r.state = .latched ∨ (r.state = .normal ∧ q = 0)) :
    evaluateEntry w active .esd q r = ({ r with last := some q }, .quiet) := by
  rcases h with hlatched | ⟨hnormal, rfl⟩
  · simp only [evaluateEntry, transition, hlatched]
  · simp [evaluateEntry, transition, hnormal, condition]

/-- ESD blocks both sides, so both lines are low while it is in force (R149, R153). -/
theorem permits_low_of_esd {s : State} (h : Formed s) (hforce : inForce (s.prot.entries.get .esd) = true) :
    s.permits = .both false := by
  have hlow (sd : Side) : s.permits.get sd = (PerSide.both false).get sd := by
    cases sd <;> exact permits_low h hforce rfl
  exact PerSide.ext_get hlow

/-- Permit lines at the levels of R150 are formed to what they are. -/
theorem formPermits_of_formed {s : State} (h : Formed s) : formPermits s = s := by
  rw [formPermits, if_pos h.symm]

/-- An evaluation of ESD that brings nothing about, where the permit lines are formed. -/
theorem protArrival_esd_quiet {s : State} (hformed : Formed s) {r : EntryRec} (heval : evaluation s .esd = some (r, .quiet))
    (hstate : r.state = (s.prot.entries.get .esd).state) : protArrival [.esd] s = setEntryRec .esd r s := by
  have hstands : Keeps s (setEntryRec .esd r s) := .of_states rfl rfl rfl rfl fun e => by
    by_cases he : e = .esd
    · subst he
      rw [setEntryRec_self, hstate]
    · rw [setEntryRec_other r s he]
  rw [protArrival_one heval]
  exact formPermits_of_formed (hstands.formed hformed)

theorem exec_esdInChange {s : State} (high : Bool) (hrun : running s = true) :
    exec (.esdInChange high) s = .next (esdLevel high s) := by
  rw [exec, execEsdInChange, if_pos hrun]

/-- Settles O6: the fall is a trip of ESD alone, every other change of level an evaluation that brings nothing about. -/
theorem esdFallLatches : Obligations.EsdFallLatches := by
  intro s hrun
  refine ⟨fun hhigh hnormal => ?fall, fun high hne hpermits hquiet => ?quiet, ?same⟩
  case fall =>
    have hchange : false ≠ s.esdIn := by simp [hhigh]
    have heval : evaluation { s with esdIn := false } .esd =
        some (trippedRec true (min 255 ((s.prot.entries.get .esd).tripCount + 1)) 1, tripEvent true) :=
      (evaluation_esd _).trans (congrArg _ (evaluateEntry_esd_low hnormal))
    obtain ⟨hentries, htrips, hcounter⟩ :=
      afterTrip_prot .esd true (min 255 ((s.prot.entries.get .esd).tripCount + 1)) 1 { s with esdIn := false }
    have hexec : exec (.esdInChange false) s = .next
        (afterTrip .esd true (min 255 ((s.prot.entries.get .esd).tripCount + 1)) 1 { s with esdIn := false }) := by
      rw [exec_esdInChange false hrun, esdLevel, if_neg hchange, protArrival_one heval]
      rfl
    refine ⟨_, hexec, far_afterTrip _ _ _ _ _, hentries, htrips, hcounter, ?_, ?_⟩
    · refine permits_low_of_esd (formed_laterStages _ _) ?_
      have hself := congrArg (fun es => inForce (PerEntry.get es .esd)) hentries
      exact hself.trans (by rw [PerEntry.get_set_self]; rfl)
    · rw [afterTrip_alarms]
      exact or_and_word _ _
  case quiet =>
    intro r
    have hformed : Formed { s with esdIn := high } := (permitsFollow_iff_formed hrun).mp hpermits
    have heval : evaluation { s with esdIn := high } .esd = some (r, .quiet) :=
      (evaluation_esd _).trans (congrArg _ (evaluateEntry_esd_quiet
        (hquiet.imp id fun ⟨hnormal, hhigh⟩ => ⟨hnormal, if_pos hhigh⟩)))
    rw [exec_esdInChange high hrun, esdLevel, if_neg hne, protArrival_esd_quiet hformed heval rfl]
    rfl
  case same => rw [exec_esdInChange s.esdIn hrun, esdLevel, if_pos rfl]

/-! ## PROT_RECOVER (R155) -/

theorem entryOfNumber_entryNumber (e : ProtEntry) : entryOfNumber (entryNumber e) = some e := by
  cases e with
  | moduleHot m => cases m <;> rfl
  | trainFault t => cases t <;> rfl
  | _ => rfl

theorem entryNumber_lt (e : ProtEntry) : entryNumber e < 23 := by
  cases e with
  | moduleHot m => cases m <;> decide
  | trainFault t => cases t <;> decide
  | _ => decide

/-- The number byte of an entry names the entry. -/
theorem entryOfNumber_byte (e : ProtEntry) :
    entryOfNumber ((BitVec.ofNat 8 (entryNumber e)).toNat : Int) = some e := by
  have hlt := entryNumber_lt e
  rw [BitVec.toNat_ofNat, Nat.mod_eq_of_lt (by omega), entryOfNumber_entryNumber]

/-- A well-formed body names its entries, in its order. -/
theorem namedEntries_of {es : List ProtEntry} (h1 : 1 ≤ es.length) (h22 : es.length ≤ 22) :
    namedEntries (BitVec.ofNat 8 es.length :: es.map (fun e => BitVec.ofNat 8 (entryNumber e))) = some es := by
  have hcount : byteAt (BitVec.ofNat 8 es.length :: es.map (fun e => BitVec.ofNat 8 (entryNumber e))) 0 = es.length :=
    Nat.mod_eq_of_lt (by omega)
  have hnames : (es.map (fun e => BitVec.ofNat 8 (entryNumber e))).mapM
      (fun (x : Byte) => entryOfNumber (x.toNat : Int)) = some es := by
    clear h1 h22 hcount
    induction es with
    | nil => rfl
    | cons e es ih => simp only [List.map_cons, List.mapM_cons, entryOfNumber_byte, ih]; rfl
  rw [namedEntries, hcount, if_pos ⟨h1, h22, by simp; omega⟩]
  exact hnames

/-- A list of entries as a reply carries it (R155, R176). -/
theorem beList_entries (es : List ProtEntry) : beList (fun e => be1n (entryNumber e)) es =
    BitVec.ofNat 8 es.length :: es.map (fun e => BitVec.ofNat 8 (entryNumber e)) := by
  have hbyte (n : Nat) : be1n n = [BitVec.ofNat 8 n] := by rw [be1n, be1, BitVec.ofInt_natCast]
  simp only [beList, hbyte, List.singleton_append, ← List.map_eq_flatMap]

/-- A recovery made for each entry of a list recovers these entries and no other. -/
theorem recoverEntries_get (rs : List ProtEntry) (s : State) (e : ProtEntry) :
    (inOrder recoverEntry rs s).prot.entries.get e =
      if e ∈ rs then recoveredRec (s.prot.entries.get e) else s.prot.entries.get e := by
  induction rs generalizing s with
  | nil => rfl
  | cons a rs ih =>
    rw [inOrder, ih, recoverEntry]
    by_cases he : e = a
    · subst he
      rw [setEntryRec_self]
      simp [recoveredRec, enterProt]
    · rw [setEntryRec_other _ s he]
      simp [he]

/-- What a recovery judges (R142, R155). -/
theorem recovers_iff (s : State) (e : ProtEntry) : recovers s e = true ↔
    (s.prot.entries.get e).state = .latched ∧ (entryEnabled s.ws e = false ∨
      ∃ v, judgedValue s e = some v ∧ recovery s.ws s.heat.active.discharge e v = true) := by
  cases hjudged : judgedValue s e <;> simp [recovers, hjudged]

/-- An accepted PROT_RECOVER recovers exactly the named entries that are judged clear (R155). -/
theorem recoverNamed_get (es : List ProtEntry) (s : State) (e : ProtEntry) :
    (recoverNamed es s).prot.entries.get e =
      if e ∈ es ∧ recovers s e = true then recoveredRec (s.prot.entries.get e) else s.prot.entries.get e := by
  have hmem : e ∈ ProtEntry.all.filter (fun e => es.contains e && recovers s e) ↔ e ∈ es ∧ recovers s e = true := by
    simp [List.mem_filter, mem_allEntries]
  rw [recoverNamed, laterStages_prot, recoverEntries_get]
  simp only [hmem]

theorem recoverNamed_trips (es : List ProtEntry) (s : State) :
    (recoverNamed es s).prot.trips = s.prot.trips ∧ (recoverNamed es s).prot.seqCounter = s.prot.seqCounter := by
  rw [recoverNamed, laterStages_prot]
  exact ⟨inOrder_keeps (fun s => s.prot.trips) recoverEntry (fun _ _ => rfl) _ s,
    inOrder_keeps (fun s => s.prot.seqCounter) recoverEntry (fun _ _ => rfl) _ s⟩

/-- A reply changes the far part alike from states that agree in it. -/
theorem far_answered {s t : State} (f : Frame) (body : List Byte) (h : farPart t = farPart s) :
    farPart (answered f body t) = farPart (answered f body s) := by
  simp only [farPart, Prod.mk.injEq] at h
  simp only [farPart, answered, h]

theorem workProtRecover_of {s : State} {es : List ProtEntry} (h1 : 1 ≤ es.length) (h22 : es.length ≤ 22)
    (hallowed : s.mode = .setup ∨ s.ws.allowRecoverOnline = 1) :
    workProtRecover (BitVec.ofNat 8 es.length :: es.map (fun e => BitVec.ofNat 8 (entryNumber e))) s =
      (reply .ok (beList (fun e => be1n (entryNumber e)) (latchedEntries (recoverNamed es s))), recoverNamed es s) := by
  have hyes : s.mode = .setup ∨ isYes s.ws.allowRecoverOnline = true :=
    hallowed.imp id fun h => by simp [isYes, h]
  rw [workProtRecover, namedEntries_of h1 h22]
  exact if_pos hyes

/-- Settles O50: the named entries that are judged clear are recovered before stages 3 to 5, which leave the entries. -/
theorem recoverIsJudged : Obligations.RecoverIsJudged := by
  intro s f es hasked h1 h22 hbody hallowed freed
  have hfreed (e : ProtEntry) : freed e ↔ e ∈ es ∧ recovers s e = true := and_congr_right fun _ => (recovers_iff s e).symm
  have hexec := whenRunning_answer_of_asked hasked (hbody ▸ workProtRecover_of h1 h22 hallowed)
  obtain ⟨htrips, hcounter⟩ := recoverNamed_trips es s
  refine ⟨_, hexec, fun e => ⟨fun he => ?_, fun he => ?_⟩, htrips, hcounter, formed_laterStages _ _, ?_⟩
  · exact (recoverNamed_get es s e).trans (if_pos ((hfreed e).mp he))
  · exact (recoverNamed_get es s e).trans (if_neg fun h => he ((hfreed e).mpr h))
  · rw [beList_entries]
    exact far_answered f _ (far_recoverNamed es s)

end Sys2Proof.Machine
end

section
/-! PROOF. The alarm words, ALERT and the host transmitter (R174, R177, R178): every operation that raises no alarm and sends no
reply leaves them. A later proof cites these and unfolds no operation. -/
namespace Sys2Proof.Machine

/-! ## What an operation that raises no alarm leaves -/

/-- The supply and RESET_IN, both alarm words with ALERT, and the frames handed to the host transmitter. -/
def alertPart (s : State) :=
  (s.power, s.resetIn, s.link.alarms, s.link.mask, s.link.alertLow, s.link.hostTx)

@[simp] theorem alert_drawChoice (s : State) : alertPart (drawChoice s) = alertPart s := rfl

@[simp] theorem alert_setMeas (m : MeasState) (s : State) : alertPart (setMeas m s) = alertPart s := rfl

@[simp] theorem alert_setClock (c : ClockState) (s : State) : alertPart (setClock c s) = alertPart s := rfl

@[simp] theorem alert_setRecord (r : PerSide DispatchRec) (s : State) : alertPart (setRecord r s) = alertPart s := rfl

@[simp] theorem alert_setEntries (es : List Entry) (s : State) : alertPart (setEntries es s) = alertPart s := rfl

@[simp] theorem alert_setGroup (g : GroupId) (x : Option (List Change)) (s : State) :
    alertPart (setGroup g x s) = alertPart s := rfl

@[simp] theorem alert_setModule (m : HeatModule) (r : ModuleRec) (s : State) :
    alertPart (setModule m r s) = alertPart s := rfl

@[simp] theorem alert_setTrain (t : Train) (r : TrainRec) (s : State) : alertPart (setTrain t r s) = alertPart s := rfl

@[simp] theorem alert_setSide (sd : Side) (x : SeqSide) (s : State) : alertPart (setSide sd x s) = alertPart s := rfl

@[simp] theorem alert_setPending (sd : Side) (b : Bool) (s : State) : alertPart (setPending sd b s) = alertPart s := rfl

@[simp] theorem alert_emit (c : TrainCmd) (s : State) : alertPart (emit c s) = alertPart s := rfl

@[simp] theorem alert_setEntryRec (e : ProtEntry) (r : EntryRec) (s : State) :
    alertPart (setEntryRec e r s) = alertPart s := rfl

@[simp] theorem alert_setMode (m : Mode) (s : State) : alertPart (setMode m s) = alertPart s := rfl

@[simp] theorem alert_writeSet (w : WorkingSet) (s : State) : alertPart (writeSet w s) = alertPart s := rfl

@[simp] theorem alert_setCounters (l : Link) (c : LinkCounters) (s : State) :
    alertPart (setCounters l c s) = alertPart s := rfl

@[simp] theorem alert_setRx (l : Link) (r : Receiver) (s : State) : alertPart (setRx l r s) = alertPart s := rfl

@[simp] theorem alert_setQueue (l : Link) (q : List Frame) (s : State) : alertPart (setQueue l q s) = alertPart s := rfl

/-- An operation repeated over a list leaves what each turn leaves. -/
theorem foldl_keeps {α β : Type} {part : State → β} {f : State → α → State} (h : ∀ s x, part (f s x) = part s)
    (l : List α) (s : State) : part (l.foldl f s) = part s := by
  induction l generalizing s with
  | nil => rfl
  | cons x l ih => exact (ih _).trans (h s x)

/-! ### The projection engine and the heat store unit -/

@[simp] theorem alert_requestRun (s : State) : alertPart (requestRun s) = alertPart s := by
  unfold requestRun
  split
  · rfl
  · split <;> rfl

@[simp] theorem alert_requestRuns {α : Type} (l : List α) (s : State) : alertPart (requestRuns l s) = alertPart s := by
  induction l generalizing s with
  | nil => rfl
  | cons _ l ih => exact (ih _).trans (alert_requestRun s)

@[simp] theorem alert_rerunIfFlagged (s : State) : alertPart (rerunIfFlagged s) = alertPart s := by
  unfold rerunIfFlagged
  split <;> rfl

@[simp] theorem alert_sendValve (m : HeatModule) (s : State) : alertPart (sendValve m s) = alertPart s := by
  unfold sendValve
  dsimp only
  split <;> rfl

@[simp] theorem alert_sendValves (s : State) : alertPart (sendValves s) = alertPart s :=
  foldl_keeps (fun s m => alert_sendValve m s) _ s

@[simp] theorem alert_formSets (s : State) : alertPart (formSets s) = alertPart s := rfl

@[simp] theorem alert_roleEvaluation (s : State) : alertPart (roleEvaluation s) = alertPart s := alert_sendValves _

@[simp] theorem alert_takeTrainStates (s : State) : alertPart (takeTrainStates s) = alertPart s := by
  unfold takeTrainStates
  dsimp only
  split
  · rfl
  · exact alert_roleEvaluation _

@[simp] theorem alert_balanceLoop (b : PerSide ModuleSet) (sd : Side) (s : State) :
    alertPart (balanceLoop b sd s) = alertPart s := by
  unfold balanceLoop
  dsimp only
  split
  · rfl
  · split <;> rfl

@[simp] theorem alert_balanceDue (s : State) : alertPart (balanceDue s) = alertPart s := by
  simp only [balanceDue, balanceUpdate, alert_sendValves, alert_balanceLoop, alert_formSets]
  rfl

@[simp] theorem alert_countBalance (s : State) : alertPart (countBalance s) = alertPart s := by
  unfold countBalance
  split
  · exact alert_balanceDue s
  · rfl

@[simp] theorem alert_isolateModule (m : HeatModule) (s : State) : alertPart (isolateModule m s) = alertPart s := by
  unfold isolateModule
  dsimp only
  split <;> simp

@[simp] theorem alert_releaseModule (m : HeatModule) (s : State) : alertPart (releaseModule m s) = alertPart s := by
  unfold releaseModule
  dsimp only
  split <;> simp

@[simp] theorem alert_heatEntersSetup (s : State) : alertPart (heatEntersSetup s) = alertPart s := alert_sendValves _

/-! ### Entry into SETUP, beside the clock and the sequencer -/

@[simp] theorem alert_measEntersSetup (s : State) : alertPart (measEntersSetup s) = alertPart s := rfl

@[simp] theorem alert_bookEntersSetup (s : State) : alertPart (bookEntersSetup s) = alertPart s := rfl

@[simp] theorem alert_projEntersSetup (s : State) : alertPart (projEntersSetup s) = alertPart s := rfl

/-! ### The train sequencer -/

@[simp] theorem alert_flush (s : State) : alertPart (flush s) = alertPart s :=
  foldl_keeps (part := alertPart) (f := fun s c => sendCommand c s) (fun _ _ => rfl) (commandOrder s.seq.outbox) s

@[simp] theorem alert_enterState (t : Train) (st : TrainState) (s : State) :
    alertPart (enterState t st s) = alertPart s := by
  unfold enterState
  dsimp only
  split <;> simp

@[simp] theorem alert_startTrain (t : Train) (s : State) : alertPart (startTrain t s) = alertPart s := by
  simp [startTrain]

@[simp] theorem alert_stopTrain (t : Train) (s : State) : alertPart (stopTrain t s) = alertPart s := by simp [stopTrain]

@[simp] theorem alert_enterTripped (t : Train) (c : TripCause) (s : State) :
    alertPart (enterTripped t c s) = alertPart s := by simp [enterTripped]

@[simp] theorem alert_startWinner (sd : Side) (ph : Fin 16) (t : Train) (s : State) :
    alertPart (startWinner sd ph t s) = alertPart s := by simp [startWinner]

@[simp] theorem alert_stopAll (l : List Train) (s : State) : alertPart (stopAll l s) = alertPart s := by
  induction l generalizing s with
  | nil => rfl
  | cons t l ih => exact (ih _).trans (alert_stopTrain t s)

@[simp] theorem alert_floorStop (sd : Side) (n : Nat) (s : State) : alertPart (floorStop sd n s) = alertPart s := by
  induction n generalizing s with
  | zero => rfl
  | succ n ih =>
    rw [floorStop]
    split
    · split
      · exact (ih _).trans (alert_stopTrain _ s)
      · rfl
    · rfl

@[simp] theorem alert_cancelPending (sd : Side) (s : State) : alertPart (cancelPending sd s) = alertPart s := by
  unfold cancelPending
  split <;> rfl

@[simp] theorem alert_askStarts (sd : Side) (n : Nat) (s : State) : alertPart (askStarts sd n s) = alertPart s := by
  induction n generalizing s with
  | zero => rfl
  | succ n ih =>
    rw [askStarts]
    split
    · split
      · exact (ih _).trans (alert_startWinner _ _ _ s)
      · rfl
    · rfl

@[simp] theorem alert_commandLoad (fresh : List Train) (t : Train) (x : Int) (s : State) :
    alertPart (commandLoad fresh t x s) = alertPart s := by
  unfold commandLoad
  dsimp only
  split <;> rfl

@[simp] theorem alert_shareSide (fresh : List Train) (sd : Side) (s : State) :
    alertPart (shareSide fresh sd s) = alertPart s :=
  foldl_keeps (fun s t => alert_commandLoad fresh t _ s) _ s

@[simp] theorem alert_allocate (sd : Side) (s : State) : alertPart (allocate sd s) = alertPart s := by
  unfold allocate
  split <;> simp

@[simp] theorem alert_reportDelivered (sd : Side) (s : State) : alertPart (reportDelivered sd s) = alertPart s := rfl

@[simp] theorem alert_evaluateFresh (fresh : List Train) (sd : Side) (s : State) :
    alertPart (evaluateFresh fresh sd s) = alertPart s := by
  unfold evaluateFresh
  split <;> simp

@[simp] theorem alert_evaluateSide (sd : Side) (s : State) : alertPart (evaluateSide sd s) = alertPart s :=
  alert_evaluateFresh [] sd s

theorem alert_retried {fresh : List Train} {sd : Side} {s t : State} (h : retried fresh sd s = some t) :
    alertPart t = alertPart s := by
  unfold retried at h
  split at h
  · split at h
    · cases h
      simp
    · cases h
  · cases h

@[simp] theorem alert_retryPending (sd : Side) (s : State) : alertPart (retryPending sd s) = alertPart s := by
  unfold retryPending
  cases h : retried [] sd s with
  | none => rfl
  | some t => exact alert_retried h

@[simp] theorem alert_afterChange (sd : Side) (s : State) : alertPart (afterChange sd s) = alertPart s := by
  simp [afterChange]

@[simp] theorem alert_takeTargets (eff : PerSide Int) (s : State) : alertPart (takeTargets eff s) = alertPart s := by
  simp [takeTargets]

@[simp] theorem alert_confirmTrains (l : List Train) (s : State) : alertPart (confirmTrains l s) = alertPart s := by
  induction l generalizing s with
  | nil => rfl
  | cons t l ih =>
    rw [confirmTrains]
    split
    · exact (ih _).trans (alert_enterState _ _ s)
    · exact ih s

@[simp] theorem alert_workWindow (t : Train) (s : State) : alertPart (workWindow t s) = alertPart s := by
  unfold workWindow
  split <;> simp

@[simp] theorem alert_workWindows (l : List Train) (s : State) : alertPart (workWindows l s) = alertPart s := by
  induction l generalizing s with
  | nil => rfl
  | cons t l ih => exact (ih _).trans (alert_workWindow t s)

@[simp] theorem alert_finishPublication (a b : PerTrain TrainRec) (sd : Side) (s : State) :
    alertPart (finishPublication a b sd s) = alertPart s := by
  unfold finishPublication
  dsimp only
  split
  next hretried => split <;> simp [alert_retried hretried]
  next => split <;> simp

@[simp] theorem alert_seqTakesScan (s : State) : alertPart (seqTakesScan s) = alertPart s := by simp [seqTakesScan]

@[simp] theorem alert_windowExit (t : Train) (s : State) : alertPart (windowExit t s) = alertPart s := by simp [windowExit]

@[simp] theorem alert_afterChanges (a b : PerTrain TrainRec) (sd : Side) (s : State) :
    alertPart (afterChanges a b sd s) = alertPart s := by
  unfold afterChanges
  split <;> simp

@[simp] theorem alert_stopNewestTrain (sd : Side) (s : State) : alertPart (stopNewestTrain sd s) = alertPart s := by
  unfold stopNewestTrain
  split <;> simp

@[simp] theorem alert_workStopTest (sd : Side) (s : State) : alertPart (workStopTest sd s) = alertPart s := by
  unfold workStopTest
  dsimp only
  split
  · rfl
  · split <;> simp

@[simp] theorem alert_tripRequest (t : Train) (b : Bool) (s : State) : alertPart (tripRequest t b s) = alertPart s := by
  unfold tripRequest
  dsimp only
  split <;> simp

@[simp] theorem alert_seqSidePermit (sd : Side) (b : Bool) (s : State) :
    alertPart (seqSidePermit sd b s) = alertPart s := by
  unfold seqSidePermit
  dsimp only
  split
  · split <;> simp
  · rfl

@[simp] theorem alert_seqTakesPermits (p : PerSide Bool) (s : State) : alertPart (seqTakesPermits p s) = alertPart s := by
  simp [seqTakesPermits]

@[simp] theorem alert_clearHeldOut (s : State) : alertPart (clearHeldOut s) = alertPart s := rfl

@[simp] theorem alert_retryReleased (b : State) (sd : Side) (s : State) :
    alertPart (retryReleased b sd s) = alertPart s := by
  unfold retryReleased
  split <;> simp

@[simp] theorem alert_seqTakesBoundary (s : State) : alertPart (seqTakesBoundary s) = alertPart s := by
  simp [seqTakesBoundary]

@[simp] theorem alert_seqModeChange (s : State) : alertPart (seqModeChange s) = alertPart s := rfl

@[simp] theorem alert_seqEntersSetup (s : State) : alertPart (seqEntersSetup s) = alertPart s := by simp [seqEntersSetup]

@[simp] theorem alert_releaseHeldOut (t : Train) (s : State) : alertPart (releaseHeldOut t s) = alertPart s := by
  unfold releaseHeldOut
  dsimp only
  split <;> simp

@[simp] theorem alert_holdOut (t : Train) (s : State) : alertPart (holdOut t s) = alertPart s := by
  unfold holdOut
  dsimp only
  split <;> simp

@[simp] theorem alert_leaveWithoutCause (t : Train) (st : TrainState) (s : State) :
    alertPart (leaveWithoutCause t st s) = alertPart s := by simp [leaveWithoutCause]

@[simp] theorem alert_acceptedStop (t : Train) (s : State) : alertPart (acceptedStop t s) = alertPart s := by
  unfold acceptedStop
  dsimp only
  split
  · split <;> simp
  · split <;> simp

/-! ### The dispatch clock -/

@[simp] theorem alert_recordTargets (eff : PerSide Int) (s : State) : alertPart (recordTargets eff s) = alertPart s := rfl

@[simp] theorem alert_formTargets (b : Bool) (s : State) : alertPart (formTargets b s) = alertPart s := by
  unfold formTargets
  dsimp only
  split <;> simp

@[simp] theorem alert_settle (s : State) : alertPart (settle s) = alertPart s := rfl

@[simp] theorem alert_setCount (sd : Side) (n : Nat) (s : State) : alertPart (setCount sd n s) = alertPart s := rfl

@[simp] theorem alert_countMark (s : State) : alertPart (countMark s) = alertPart s := by
  unfold countMark
  split <;> rfl

@[simp] theorem alert_plainMark (s : State) : alertPart (plainMark s) = alertPart s := by simp [plainMark]

@[simp] theorem alert_rejoinEnd (s : State) : alertPart (rejoinEnd s) = alertPart s := by simp [rejoinEnd]

@[simp] theorem alert_clockTakesPermits (p : PerSide Bool) (s : State) :
    alertPart (clockTakesPermits p s) = alertPart s := by simp [clockTakesPermits]

@[simp] theorem alert_clockEntersManual (s : State) : alertPart (clockEntersManual s) = alertPart s := by
  simp [clockEntersManual]

@[simp] theorem alert_clockReturns (s : State) : alertPart (clockReturns s) = alertPart s := by simp [clockReturns]

@[simp] theorem alert_clockEntersSetup (s : State) : alertPart (clockEntersSetup s) = alertPart s := by
  simp [clockEntersSetup]

/-! ### The protection unit -/

@[simp] theorem alert_evaluateAll (es : List ProtEntry) (s : State) : alertPart (evaluateAll es s).2 = alertPart s := by
  induction es generalizing s with
  | nil => rfl
  | cons e es ih =>
    simp only [evaluateAll]
    split
    · exact (ih _).trans (alert_setEntryRec e _ s)
    · exact ih s

@[simp] theorem alert_moduleRequest (x : ProtEntry × ProtEvent) (s : State) :
    alertPart (moduleRequest x s) = alertPart s := by
  unfold moduleRequest
  split <;> simp

@[simp] theorem alert_trainTripRequest (x : ProtEntry × ProtEvent) (s : State) :
    alertPart (trainTripRequest x s) = alertPart s := by
  unfold trainTripRequest
  split <;> simp

@[simp] theorem alert_publishPermits (p : PerSide Bool) (s : State) : alertPart (publishPermits p s) = alertPart s := by
  have hdriven : alertPart { s with permits := p } = alertPart s := rfl
  unfold publishPermits
  dsimp only
  split <;> simp [hdriven]

@[simp] theorem alert_formPermits (s : State) : alertPart (formPermits s) = alertPart s := by
  unfold formPermits
  dsimp only
  split
  · rfl
  · exact alert_publishPermits _ s

/-- Stages 3 to 5 latch no alarm and leave the mask (R144). -/
@[simp] theorem alert_laterStages (xs : List (ProtEntry × ProtEvent)) (s : State) :
    alertPart (laterStages xs s) = alertPart s := by
  rw [laterStages, alert_formPermits, inOrder_keeps alertPart trainTripRequest alert_trainTripRequest,
    inOrder_keeps alertPart moduleRequest alert_moduleRequest]

@[simp] theorem alert_disableEntry (e : ProtEntry) (s : State) : alertPart (disableEntry e s) = alertPart s := by
  simp [disableEntry]

@[simp] theorem alert_recoverNamed (es : List ProtEntry) (s : State) : alertPart (recoverNamed es s) = alertPart s :=
  (alert_laterStages _ _).trans (inOrder_keeps alertPart recoverEntry (fun _ _ => rfl) _ s)

end Sys2Proof.Machine
end

section
/-! PROOF. What every command does to ALERT and to the host transmitter, through two relations between the state before and
after, `AlertKept` and `Inward`, and what every request answers, `Answers`; with them ALERT over a step (R177, R178) and the
refusals of the request catalogue (R174). -/
namespace Sys2Proof.Machine

/-! ## The relations -/

/-- Neither alarm word has a bit above 12 (10.7). -/
def WordsBounded (s : State) : Prop := s.link.alarms &&& 0xE000 = 0 ∧ s.link.mask &&& 0xE000 = 0

/-- ALERT is formed from the two words as they stand, whether or not the part runs (R178). -/
def AlertFormed (s : State) : Prop := s.link.alertLow = alertLevel s.link.alarms s.link.mask ∧ WordsBounded s

/-- From one state to another the part runs as before, and ALERT that is formed stays formed. -/
structure AlertKept (s t : State) : Prop where
  running : running t = running s
  formed : AlertFormed s → AlertFormed t

/-- What a block does to the part on the inside: `AlertKept`, and nothing is handed to the host transmitter. -/
structure Inward (s t : State) : Prop extends AlertKept s t where
  hostTx : t.link.hostTx = s.link.hostTx

/-- An alarm has its bit among the lower 13 (10.7). -/
theorem Alarm.word_bounded (a : Alarm) : a.word &&& 0xE000 = 0 := by cases a <;> decide

/-- A word joined of two that have no bit above 12 has none. -/
theorem or_bounded {w v : Word16} (hw : w &&& 0xE000 = 0) (hv : v &&& 0xE000 = 0) : (w ||| v) &&& 0xE000 = 0 := by
  rw [BitVec.and_or_distrib_right, hw, hv]
  rfl

/-- A part of a word that has no bit above 12 has none. -/
theorem and_bounded {w : Word16} (v : Word16) (hw : w &&& 0xE000 = 0) : w &&& v &&& 0xE000 = 0 := by
  rw [BitVec.and_assoc, BitVec.and_comm v, ← BitVec.and_assoc, hw]
  exact BitVec.zero_and

/-- A word cut to the bits of the alarm words (10.7). -/
theorem alarmBits_bounded (w : Word16) : w &&& alarmBits &&& 0xE000 = 0 := by
  rw [BitVec.and_comm w]
  exact and_bounded w rfl

/-- The mask written anew (R178). -/
theorem alertFormed_setMask (w : Word16) {s : State} (h : AlertFormed s) : AlertFormed (setMask w s) := by
  obtain ⟨-, halarms, -⟩ := h
  exact ⟨rfl, halarms, alarmBits_bounded w⟩

/-- The alarm word written anew (R177). -/
theorem alertFormed_setAlarms {w : Word16} {s : State} (hw : w &&& 0xE000 = 0) (h : AlertFormed s) :
    AlertFormed (setAlarms w s) := by
  obtain ⟨-, -, hmask⟩ := h
  exact ⟨rfl, hw, hmask⟩

theorem AlertFormed.words {s : State} (h : AlertFormed s) : WordsBounded s := h.2

theorem WordsBounded.alarms {s : State} (h : WordsBounded s) : s.link.alarms &&& 0xE000 = 0 := h.1

/-- A raw alarm latched (R177). -/
theorem alertFormed_raiseAlarm (a : Alarm) {s : State} (h : AlertFormed s) : AlertFormed (raiseAlarm a s) :=
  alertFormed_setAlarms (or_bounded h.words.alarms a.word_bounded) h

namespace AlertKept

theorem refl (s : State) : AlertKept s s := ⟨rfl, id⟩

theorem trans {s t u : State} (h : AlertKept s t) (h' : AlertKept t u) : AlertKept s u :=
  ⟨h'.running.trans h.running, fun hs => h'.formed (h.formed hs)⟩

end AlertKept

namespace Inward

variable {s t u : State}

/-- A change of nothing that ALERT and the host transmitter rest on. -/
theorem of_alert (h : alertPart t = alertPart s) : Inward s t := by
  simp only [alertPart, Prod.mk.injEq] at h
  obtain ⟨hpower, hreset, halarms, hmask, halert, htx⟩ := h
  refine ⟨⟨by simp only [Machine.running, hpower, hreset], fun hs => ?_⟩, htx⟩
  simpa only [AlertFormed, WordsBounded, halarms, hmask, halert] using hs

theorem refl (s : State) : Inward s s := .of_alert rfl

theorem trans (h : Inward s t) (h' : Inward t u) : Inward s u :=
  ⟨h.toAlertKept.trans h'.toAlertKept, h'.hostTx.trans h.hostTx⟩

/-- An operation that raises no alarm made after others. -/
theorem andThen (h : Inward s t) (h' : alertPart u = alertPart t) : Inward s u := h.trans (.of_alert h')

theorem raise {a : Alarm} (h : Inward s t) : Inward s (raiseAlarm a t) := h.trans ⟨⟨rfl, alertFormed_raiseAlarm a⟩, rfl⟩

theorem raiseIf {c : Bool} {a : Alarm} (h : Inward s t) : Inward s (raiseIf c a t) := by
  cases c
  · exact h
  · exact h.raise

theorem ite {c : Prop} [Decidable c] (h : Inward s t) : Inward s (if c then t else s) := by
  split
  · exact h
  · exact .refl s

theorem inOrder {α : Type} {f : α → State → State} (h : ∀ x s, Inward s (f x s)) (l : List α) (s : State) :
    Inward s (inOrder f l s) := by
  induction l generalizing s with
  | nil => exact .refl s
  | cons x l ih => exact (h x s).trans (ih _)

end Inward

/-! ## The operations that raise alarms -/

theorem inward_publishRun (r : RunInFlight) (s : State) : Inward s (publishRun r s) :=
  .raiseIf (.raiseIf (.of_alert rfl))

theorem inward_integrateScan (steps : Int) (s : State) : Inward s (integrateScan steps s) := by
  have hraised (modules : PerModule ModuleRec) (full empty : Bool) : Inward s (raiseIf full .heatFull
      (raiseIf empty .heatEmpty { s with heat := { s.heat with modules := modules } })) :=
    .raiseIf (.raiseIf (.of_alert rfl))
  unfold integrateScan
  dsimp only
  split
  · exact (hraised _ _ _).andThen (alert_roleEvaluation _)
  · exact hraised _ _ _

theorem inward_heatTakesScan (steps : Int) (s : State) : Inward s (heatTakesScan steps s) :=
  (inward_integrateScan steps s).andThen (alert_countBalance _)

theorem inward_startTimesOut (t : Train) (s : State) : Inward s (startTimesOut t s) :=
  .raise (.of_alert (alert_enterTripped t _ s))

theorem inward_workLimit (t : Train) (s : State) : Inward s (workLimit t s) := by
  unfold workLimit
  dsimp only
  split
  · split
    next => exact inward_startTimesOut t s
    next => exact .of_alert (alert_enterTripped t _ s)
    next => exact .of_alert (alert_enterState t _ s)
    all_goals exact .refl s
  · exact .refl s

theorem inward_workLimits (l : List Train) (s : State) : Inward s (workLimits l s) := by
  induction l generalizing s with
  | nil => exact .refl s
  | cons t l ih => exact (inward_workLimit t s).trans (ih _)

theorem inward_seqTakesMark (s : State) : Inward s (seqTakesMark s) := by
  have htimers : Inward s (countTimers s) := .of_alert rfl
  exact (htimers.trans (inward_workLimits Train.all _)).andThen (by simp [seqTakesMark])

theorem inward_fillByPolicy (s : State) : Inward s (fillByPolicy s) := .raise (.of_alert (alert_setClock _ s))

theorem inward_fillStaging (s : State) : Inward s (fillStaging s) := by
  unfold fillStaging
  split
  · exact .of_alert rfl
  · exact inward_fillByPolicy s

theorem inward_boundary (s : State) : Inward s (boundary s) := by
  have hturned : Inward s (turnOver (advanceInterval s)) := .of_alert rfl
  have hforce : Inward s (boundaryInForce s) :=
    (hturned.trans (inward_fillStaging _)).andThen (by simp [boundaryInForce])
  unfold boundary
  split
  next => exact .of_alert rfl
  all_goals exact hforce

theorem inward_undelivered (sd : Side) (s : State) : Inward s (undelivered sd s) :=
  .raise (.of_alert (alert_setCount sd 0 s))

theorem inward_countShortfall (sd : Side) (s : State) : Inward s (countShortfall sd s) := by
  unfold countShortfall
  split
  · exact .refl s
  · split
    · exact inward_undelivered sd s
    · exact .of_alert (alert_setCount sd _ s)

theorem inward_clockTakesMark (s : State) : Inward s (clockTakesMark s) := by
  have hcounted (t : State) : Inward t (countShortfall .discharge (countShortfall .charge t)) :=
    (inward_countShortfall .charge t).trans (inward_countShortfall .discharge _)
  unfold clockTakesMark
  split
  · exact (inward_boundary s).trans (hcounted _)
  · exact (Inward.of_alert (alert_plainMark s)).trans (hcounted _)

theorem inward_clockEntersOperate (s : State) : Inward s (clockEntersOperate s) := by
  have hactive : Inward s (setClock { s.clock with active := some (zeroActive s) } s) := .of_alert rfl
  exact (hactive.trans (inward_fillByPolicy _)).andThen (by simp [clockEntersOperate])

theorem inward_recordTrip (x : ProtEntry × ProtEvent) (s : State) : Inward s (recordTrip x s) := by
  have happended (latched : Bool) : Inward s (appendTrip (tripRecord s x.1 latched) s) := .of_alert rfl
  unfold recordTrip
  split
  · exact (happended false).raise
  · exact (happended true).raise
  all_goals exact .refl s

theorem inward_protArrival (es : List ProtEntry) (s : State) : Inward s (protArrival es s) :=
  ((Inward.of_alert (alert_evaluateAll es s)).trans (.inOrder inward_recordTrip _ _)).andThen (alert_laterStages _ _)

/-! ## Scans, marks and the links -/

theorem inward_acceptScan (g : Option Int) (r : ScanRecord) (s : State) : Inward s (acceptScan g r s) :=
  .raiseIf (.raiseIf (.of_alert (alert_setMeas _ s)))

theorem inward_scanTask (steps : Int) (x : ScanTask) (s : State) : Inward s (scanTask steps x s) := by
  cases x with
  | heat => exact inward_heatTakesScan steps s
  | sink => exact inward_protArrival _ s
  | protection => exact inward_protArrival _ s
  | sequencer => exact .of_alert (alert_seqTakesScan s)

theorem inward_takeScan (r : ScanRecord) (s : State) : Inward s (takeScan r s) := by
  unfold takeScan
  split
  next => exact .of_alert (alert_setMeas _ s)
  next steps g _ =>
    exact ((inward_acceptScan g r s).andThen (alert_drawChoice _)).trans (.inOrder (inward_scanTask steps) _ _)

theorem alert_measTakesMark (s : State) : alertPart (measTakesMark s) = alertPart s := by
  unfold measTakesMark
  split
  · rfl
  · split <;> rfl

theorem inward_markTask (x : MarkTask) (s : State) : Inward s (markTask x s) := by
  cases x with
  | measurement => exact .of_alert (alert_measTakesMark s)
  | normalMarks => exact .of_alert rfl
  | fieldLoss => exact inward_protArrival _ s
  | sequencer => exact inward_seqTakesMark s
  | clock => exact inward_clockTakesMark s

theorem inward_takeMark (s : State) : Inward s (takeMark s) :=
  (Inward.of_alert (alert_drawChoice s)).trans (.inOrder inward_markTask _ _)

theorem inward_frameError (l : Link) (s : State) : Inward s (frameError l s) :=
  .raise (.of_alert (alert_setCounters l _ s))

theorem alert_enqueue (l : Link) (f : Frame) (s : State) : alertPart (enqueue l f s) = alertPart s := by
  unfold enqueue
  dsimp only
  split <;> rfl

theorem inward_feed (l : Link) (b : Byte) (s : State) : Inward s (feed l b s) := by
  have hhunt : Inward s (setRx l .hunt s) := .of_alert (alert_setRx l .hunt s)
  unfold feed
  split
  case h_1 => exact .ite (.of_alert (alert_setRx l _ s))
  case h_2 => exact .of_alert (alert_setRx l _ s)
  case h_3 =>
    split
    · exact .of_alert (alert_setRx l _ s)
    · exact hhunt.trans (inward_frameError l _)
  case h_4 =>
    split
    · unfold frameComplete
      split
      · exact hhunt.andThen (alert_enqueue l _ _)
      · exact hhunt.trans (inward_frameError l _)
    · exact .of_alert (alert_setRx l _ s)

theorem inward_feedAll (l : Link) (bs : List Byte) (s : State) : Inward s (feedAll l bs s) := by
  induction bs generalizing s with
  | nil => exact .refl s
  | cons b bs ih => exact (inward_feed l b s).trans (ih _)

theorem alert_gap (l : Link) (s : State) : alertPart (gap l s) = alertPart s := by
  unfold gap
  split <;> rfl

/-! ## The workings of the requests (R174) -/

/-- A request's working stays on the inside of the part, and its reply begins with a status under which, unless it is OK or
OK_CLAMPED, nothing has changed (R174). -/
structure Answers (s : State) (w : Worked) : Prop where
  inward : Inward s w.2
  status : ∃ st rest, w.1 = reply st rest ∧ (st ≠ .ok → st ≠ .okClamped → w.2 = s)

namespace Answers

variable {s t : State} {w : Worked}

/-- A reply of any status beside the state as it was. -/
theorem unchanged (st : Status) (rest : List Byte) (s : State) : Answers s (reply st rest, s) :=
  ⟨.refl s, st, rest, rfl, fun _ _ => rfl⟩

theorem refused (st : Status) (s : State) : Answers s (refuse st s) := .unchanged st [] s

theorem ok {rest : List Byte} (h : Inward s t) : Answers s (reply .ok rest, t) :=
  ⟨h, .ok, rest, rfl, fun hne _ => absurd rfl hne⟩

theorem okClamped {rest : List Byte} (h : Inward s t) : Answers s (reply .okClamped rest, t) :=
  ⟨h, .okClamped, rest, rfl, fun _ hne => absurd rfl hne⟩

/-- OK, or OK_CLAMPED where a value was clamped (R63, R108). -/
theorem clampable {st : Status} {rest : List Byte} (hst : st = .ok ∨ st = .okClamped) (h : Inward s t) :
    Answers s (reply st rest, t) := by
  rcases hst with rfl | rfl
  · exact .ok h
  · exact .okClamped h

/-- A check that refuses, in front of a working. -/
theorem checked {c : Prop} [Decidable c] {st : Status} (h : Answers s w) : Answers s (if c then refuse st s else w) := by
  split
  · exact .refused st s
  · exact h

theorem bare {work : State → Worked} (h : ∀ s, Answers s (work s)) (b : List Byte) (s : State) :
    Answers s (bare work b s) := by
  unfold Machine.bare
  split
  · exact h s
  · exact .refused .badArg s

theorem trainRequest {work : Train → State → Worked} (h : ∀ t s, Answers s (work t s)) (b : List Byte) (s : State) :
    Answers s (trainRequest work b s) := by
  refine .checked ?_
  split
  · exact .refused .badArg s
  · exact h _ s

end Answers

/-! ### Reads -/

theorem answers_read (fields : State → List Byte) (b : List Byte) (s : State) : Answers s (bare (readOnly fields) b s) :=
  .bare (fun s => .unchanged .ok (fields s) s) b s

theorem answers_workBookRead (b : List Byte) (s : State) : Answers s (workBookRead b s) :=
  .checked (.unchanged .ok _ s)

theorem answers_workLinkRead (b : List Byte) (s : State) : Answers s (workLinkRead b s) :=
  .checked (.ok (.ite (.of_alert rfl)))

/-! ### The schedule book -/

theorem clampStatus_ok (w : WorkingSet) (p : PutForm) : clampStatus w p = .ok ∨ clampStatus w p = .okClamped := by
  unfold clampStatus
  split
  · exact .inr rfl
  · exact .inl rfl

theorem addStatus_ok (w : WorkingSet) (c : Change) : addStatus w c = .ok ∨ addStatus w c = .okClamped := by
  cases c with
  | put p => exact clampStatus_ok w p
  | drop n => exact .inl rfl

theorem answers_workEntryPut (b : List Byte) (s : State) : Answers s (workEntryPut b s) := by
  unfold workEntryPut
  split
  · exact .refused .badArg s
  · split
    · exact .refused _ s
    · split
      · exact .clampable (clampStatus_ok _ _) (.of_alert (by simp))
      · exact .refused .badArg s

theorem answers_workEntryDrop (b : List Byte) (s : State) : Answers s (workEntryDrop b s) := by
  refine .checked ?_
  split
  · exact .refused _ s
  · exact .ok (.of_alert (by simp))

theorem answers_workGroupOpen (s : State) : Answers s (workGroupOpen s) := by
  unfold workGroupOpen
  split
  · exact .ok (.of_alert (alert_setGroup _ _ s))
  · exact .refused .noGroupFree s

theorem answers_workGroupAdd (b : List Byte) (s : State) : Answers s (workGroupAdd b s) := by
  unfold workGroupAdd
  split
  · exact .refused .badArg s
  · split
    · exact .refused .noGroup s
    · refine .checked ?_
      split
      · exact .refused .badArg s
      · exact .clampable (addStatus_ok _ _) (.of_alert (alert_setGroup _ _ s))

/-- A launch that fails a check answers the refusal with the change's index, and leaves the book (R68). -/
theorem answers_workGroupLaunch (b : List Byte) (s : State) : Answers s (workGroupLaunch b s) := by
  refine .checked ?_
  split
  · exact .refused .badArg s
  · split
    · exact .refused .noGroup s
    · split
      · exact .unchanged _ _ s
      · refine .ok ?_
        split
        · exact .of_alert rfl
        · exact .of_alert (by simp)

theorem answers_workGroupDiscard (b : List Byte) (s : State) : Answers s (workGroupDiscard b s) := by
  refine .checked ?_
  split
  · exact .refused .badArg s
  · split
    · exact .refused .noGroup s
    · exact .ok (.of_alert (alert_setGroup _ _ s))

/-! ### Targets, trains and heat -/

theorem answers_workReserveCall (b : List Byte) (s : State) : Answers s (workReserveCall b s) := by
  refine .checked (.checked (.checked (.clampable ?_ (.of_alert (by simp)))))
  split
  · exact .inl rfl
  · exact .inr rfl

theorem answers_workManualTarget (b : List Byte) (s : State) : Answers s (workManualTarget b s) :=
  .checked (.checked (.checked (.ok (.of_alert (by simp)))))

theorem answers_workTrainStart (t : Train) (s : State) : Answers s (workTrainStart t s) :=
  .checked (.checked (.checked (.checked (.checked (.ok (.of_alert (by simp)))))))

theorem answers_workTrainStop (t : Train) (s : State) : Answers s (workTrainStop t s) :=
  .checked (.checked (.checked (.ok (.of_alert (alert_acceptedStop t s)))))

theorem answers_workTrainLock (t : Train) (s : State) : Answers s (workTrainLock t s) := by
  have hleave : Answers s (reply .ok [], leaveWithoutCause t .offline (releaseHeldOut t s)) := .ok (.of_alert (by simp))
  unfold workTrainLock
  split
  case h_4 => exact .unchanged .ok [] s
  case h_5 | h_6 => exact hleave
  case h_7 =>
    split
    · exact hleave
    · exact .refused .notReady s
  all_goals exact .refused .busy s

theorem answers_workTrainUnlock (t : Train) (s : State) : Answers s (workTrainUnlock t s) := by
  unfold workTrainUnlock
  split
  · exact .unchanged .ok [] s
  · split
    · exact .ok (.of_alert (by simp))
    · exact .refused .notReady s

theorem answers_workTrainReset (t : Train) (s : State) : Answers s (workTrainReset t s) := by
  unfold workTrainReset
  split
  · exact .ok (.of_alert (alert_leaveWithoutCause t .cold s))
  · exact .refused .notReady s

theorem answers_workModuleService (b : List Byte) (s : State) : Answers s (workModuleService b s) := by
  refine .checked ?_
  split
  · exact .refused .badArg s
  · dsimp only
    split
    · exact .unchanged .ok [] s
    · exact .ok (.of_alert (by simp))

theorem answers_workHeatPreset (b : List Byte) (s : State) : Answers s (workHeatPreset b s) := by
  refine .checked (.checked ?_)
  split
  · exact .refused .badArg s
  · exact .checked (.ok (.of_alert (by simp)))

/-! ### Protection and alarms -/

theorem answers_workProtRecover (b : List Byte) (s : State) : Answers s (workProtRecover b s) := by
  unfold workProtRecover
  split
  · exact .refused .badArg s
  · split
    · exact .ok (.of_alert (alert_recoverNamed _ s))
    · exact .refused .notPermitted s

theorem answers_workTripListClear (s : State) : Answers s (workTripListClear s) := .ok (.of_alert rfl)

theorem answers_workAlarmClear (b : List Byte) (s : State) : Answers s (workAlarmClear b s) :=
  .checked (.ok ⟨⟨rfl, fun h => alertFormed_setAlarms (and_bounded _ h.words.alarms) h⟩, rfl⟩)

theorem answers_workAlarmMaskSet (b : List Byte) (s : State) : Answers s (workAlarmMaskSet b s) :=
  .checked (.ok ⟨⟨rfl, alertFormed_setMask _⟩, rfl⟩)

/-! ### Mode changes, time and the working set -/

/-- Entry into OPERATE writes the mask from its setting and fills the staging slot by the policy (R160). -/
theorem inward_operateEntry (s : State) : Inward s (operateEntry s) := by
  have hmask : Inward s (setMask (defaultMask s.ws) (setMode .operate s)) := ⟨⟨rfl, alertFormed_setMask _⟩, rfl⟩
  have hbook : Inward s (dropBelowHorizon (setMask (defaultMask s.ws) (setMode .operate s))) := hmask.andThen rfl
  exact (hbook.trans (inward_clockEntersOperate _)).andThen (by simp [operateEntry])

theorem alert_setupEntry (s : State) : alertPart (setupEntry s) = alertPart s := by simp [setupEntry]

theorem answers_leaveSetup (s : State) : Answers s (leaveSetup s) := by
  refine .checked ?_
  split
  · exact .unchanged .badConfig _ s
  · exact .ok (inward_operateEntry s)

theorem answers_workModeSet (b : List Byte) (s : State) : Answers s (workModeSet b s) := by
  refine .checked ?_
  split
  · exact .refused .badArg s
  · split
    case h_4 => exact answers_leaveSetup s
    case h_5 => exact .refused .wrongMode s
    case h_6 => exact .ok (.of_alert (by simp [manualEntry]))
    case h_7 => exact .ok (.of_alert (by simp [manualReturn]))
    case h_8 | h_9 => exact .checked (.ok (.of_alert (alert_setupEntry s)))
    all_goals exact .unchanged .ok [] s

theorem alert_acceptTime (n : Word32) (m : Int) (s : State) : alertPart (acceptTime n m s) = alertPart s := by
  unfold acceptTime
  dsimp only
  split
  · rfl
  · exact alert_requestRun _

theorem answers_workTimeSet (b : List Byte) (s : State) : Answers s (workTimeSet b s) :=
  .checked (.checked (.checked (.ok (.of_alert (alert_acceptTime _ _ s)))))

theorem alert_writeSetting (x : Setting) (v : Int) (s : State) : alertPart (writeSetting x v s) = alertPart s := by
  unfold writeSetting settingEffect
  split
  next => rfl
  next => split <;> rfl
  next => split <;> simp
  all_goals simp

theorem answers_workConfigPut (b : List Byte) (s : State) : Answers s (workConfigPut b s) := by
  refine .checked ?_
  split
  · exact .refused .badArg s
  · exact .checked (.checked (.checked (.ok (.of_alert (alert_writeSetting _ _ s)))))

theorem answers_workMapPut (b : List Byte) (s : State) : Answers s (workMapPut b s) :=
  .checked (.checked (.checked (.checked (.ok (.of_alert (alert_writeSet _ s))))))

theorem answers_workConfigSave (s : State) : Answers s (workConfigSave s) := .checked (.ok (.of_alert rfl))

/-! ## The commands -/

/-- Every request of the catalogue is the taking of its kind by a working that `Answers` (10.4). -/
theorem exec_request {c : Instr} {k : Byte} (h : requestKind c = some k) :
    ∃ work : List Byte → State → Worked,
      (∀ s, exec c s = whenRunning (answer k work) s) ∧ ∀ b s, Answers s (work b s) := by
  cases c with
  | statusRead | measRead | heatRead | trainRead | slotRead | dispatchRead | protRead | tripListRead | mapRead =>
    cases h
    exact ⟨_, fun _ => rfl, answers_read _⟩
  | bookRead => cases h; exact ⟨_, fun _ => rfl, answers_workBookRead⟩
  | linkRead => cases h; exact ⟨_, fun _ => rfl, answers_workLinkRead⟩
  | entryPut => cases h; exact ⟨_, fun _ => rfl, answers_workEntryPut⟩
  | entryDrop => cases h; exact ⟨_, fun _ => rfl, answers_workEntryDrop⟩
  | groupOpen => cases h; exact ⟨_, fun _ => rfl, .bare answers_workGroupOpen⟩
  | groupAdd => cases h; exact ⟨_, fun _ => rfl, answers_workGroupAdd⟩
  | groupLaunch => cases h; exact ⟨_, fun _ => rfl, answers_workGroupLaunch⟩
  | groupDiscard => cases h; exact ⟨_, fun _ => rfl, answers_workGroupDiscard⟩
  | reserveCall => cases h; exact ⟨_, fun _ => rfl, answers_workReserveCall⟩
  | manualTarget => cases h; exact ⟨_, fun _ => rfl, answers_workManualTarget⟩
  | trainStart => cases h; exact ⟨_, fun _ => rfl, .trainRequest answers_workTrainStart⟩
  | trainStop => cases h; exact ⟨_, fun _ => rfl, .trainRequest answers_workTrainStop⟩
  | trainLock => cases h; exact ⟨_, fun _ => rfl, .trainRequest answers_workTrainLock⟩
  | trainUnlock => cases h; exact ⟨_, fun _ => rfl, .trainRequest answers_workTrainUnlock⟩
  | trainReset => cases h; exact ⟨_, fun _ => rfl, .trainRequest answers_workTrainReset⟩
  | moduleService => cases h; exact ⟨_, fun _ => rfl, answers_workModuleService⟩
  | heatPreset => cases h; exact ⟨_, fun _ => rfl, answers_workHeatPreset⟩
  | protRecover => cases h; exact ⟨_, fun _ => rfl, answers_workProtRecover⟩
  | tripListClear => cases h; exact ⟨_, fun _ => rfl, .bare answers_workTripListClear⟩
  | alarmClear => cases h; exact ⟨_, fun _ => rfl, answers_workAlarmClear⟩
  | alarmMaskSet => cases h; exact ⟨_, fun _ => rfl, answers_workAlarmMaskSet⟩
  | modeSet => cases h; exact ⟨_, fun _ => rfl, answers_workModeSet⟩
  | timeSet => cases h; exact ⟨_, fun _ => rfl, answers_workTimeSet⟩
  | configPut => cases h; exact ⟨_, fun _ => rfl, answers_workConfigPut⟩
  | mapPut => cases h; exact ⟨_, fun _ => rfl, answers_workMapPut⟩
  | configSave => cases h; exact ⟨_, fun _ => rfl, .bare answers_workConfigSave⟩
  | _ => cases h

/-- Settles O13: every request's working `Answers`, and a reply adds to it the reply and the queue alone. -/
theorem refusalsChangeNothing : Obligations.RefusalsChangeNothing := by
  intro c k f s hkind hasked
  obtain ⟨work, hexec, hanswers⟩ := exec_request hkind
  obtain ⟨hinward, st, rest, hbody, hrefused⟩ := hanswers f.body s
  have hnext : exec c s = .next (answered f (reply st rest) (work f.body s).2) :=
    (hexec s).trans (whenRunning_answer_of_asked hasked (Prod.ext hbody rfl))
  obtain ⟨-, -, hk⟩ := hasked
  refine ⟨_, statusCode st, rest, hnext, ?_, fun hok hclamped => ?_⟩
  · rw [← hk, ← hinward.hostTx]
    rfl
  · rw [hrefused (fun h => hok (h ▸ rfl)) (fun h => hclamped (h ▸ rfl))]
    rfl

theorem alertKept_sendReply (f : Frame) (w : Worked) : AlertKept w.2 (sendReply f w) := ⟨rfl, id⟩

/-- Taking a request and answering it. -/
theorem alertKept_answer {k : Byte} {work : List Byte → State → Worked} (h : ∀ b s, Answers s (work b s)) (s : State) :
    AlertKept s (answer k work s) := by
  unfold answer
  split
  next f _ _ =>
    split
    · exact (h f.body s).inward.toAlertKept.trans (alertKept_sendReply f _)
    · exact .refl s
  next => exact .refl s

/-- The commands that are neither a request of the catalogue nor a line nor HOST_BAD_KIND act on the inside of the part. -/
theorem exec_inward {c : Instr} (hline : drivesALine c = false) (hkind : requestKind c = none) (hbad : c ≠ .hostBadKind) :
    ∃ f : State → State, (∀ s, exec c s = whenRunning f s) ∧ ∀ s, Inward s (f s) := by
  cases c with
  | linkFrameRx l bs => exact ⟨_, fun _ => rfl, inward_feedAll l bs⟩
  | frameGapTimeout l bs =>
    exact ⟨_, fun _ => rfl, fun s => (Inward.of_alert (alert_gap l s)).trans (inward_feedAll l bs _)⟩
  | sofDetected l lenHigh lenLow => exact ⟨_, fun _ => rfl, inward_feedAll l [sof, lenHigh, lenLow]⟩
  | fieldFrameDiscard =>
    refine ⟨_, fun _ => rfl, fun s => ?_⟩
    split
    · split
      · exact .refl s
      · exact (Inward.of_alert (alert_setQueue .field _ s)).trans (inward_frameError .field _)
    · exact .refl s
  | hostBadKind => exact absurd rfl hbad
  | scan =>
    refine ⟨_, fun _ => rfl, fun s => ?_⟩
    split
    · exact .ite ((inward_takeScan _ s).andThen rfl)
    · exact .refl s
  | sensorSuspect p => exact ⟨_, fun _ => rfl, fun s => .ite (.raise (.of_alert (alert_setMeas _ s)))⟩
  | transducerReturnGood p => exact ⟨_, fun _ => rfl, fun s => .ite (.of_alert (alert_setMeas _ s))⟩
  | windowExit t => exact ⟨_, fun _ => rfl, fun s => .ite (.of_alert (alert_windowExit t s))⟩
  | balanceUpdate => exact ⟨_, fun _ => rfl, fun s => .ite (.of_alert (alert_balanceDue s))⟩
  | mark => exact ⟨_, fun _ => rfl, inward_takeMark⟩
  | fieldLossBegin => exact ⟨_, fun _ => rfl, fun s => .ite (.of_alert (alert_setMeas _ s))⟩
  | boundary => exact ⟨_, fun _ => rfl, fun s => .ite (inward_boundary s)⟩
  | rejoinRampEnd => exact ⟨_, fun _ => rfl, fun s => .ite (.of_alert (alert_rejoinEnd s))⟩
  | undelivered sd => exact ⟨_, fun _ => rfl, fun s => .ite (inward_undelivered sd s)⟩
  | startTimeout t => exact ⟨_, fun _ => rfl, fun s => .ite ((inward_startTimesOut t s).andThen (by simp))⟩
  | stopTimeout t => exact ⟨_, fun _ => rfl, fun s => .ite (.of_alert (by simp [stopTimesOut]))⟩
  | warmHoldExpiry t => exact ⟨_, fun _ => rfl, fun s => .ite (.of_alert (by simp [cools]))⟩
  | stopNewest sd => exact ⟨_, fun _ => rfl, fun s => .ite (.of_alert (by simp))⟩
  | tripCountClear e => exact ⟨_, fun _ => rfl, fun s => .ite (.of_alert (alert_setEntryRec e _ s))⟩
  | protDelayExpiry e => exact ⟨_, fun _ => rfl, fun s => .ite (inward_protArrival [e] s)⟩
  | protRecoveryDelayExpiry e => exact ⟨_, fun _ => rfl, fun s => .ite (inward_protArrival [e] s)⟩
  | projectionRunComplete =>
    refine ⟨_, fun _ => rfl, fun s => ?_⟩
    split
    · exact (inward_publishRun _ s).andThen (alert_rerunIfFlagged _)
    · exact .refl s
  | configSaveComplete crc => exact ⟨_, fun _ => rfl, fun s => .ite (.of_alert rfl)⟩
  | powerOn | powerLoss | resetInFall | resetInRise | esdInChange high => cases hline
  | _ => cases hkind

/-- Every command but the supply and the lines acts on a running part alone, and keeps ALERT formed. -/
theorem exec_alertKept {c : Instr} (hline : drivesALine c = false) :
    ∃ f : State → State, (∀ s, exec c s = whenRunning f s) ∧ ∀ s, AlertKept s (f s) := by
  cases hkind : requestKind c with
  | some k =>
    obtain ⟨work, hexec, hanswers⟩ := exec_request hkind
    exact ⟨_, hexec, alertKept_answer hanswers⟩
  | none =>
    by_cases hbad : c = .hostBadKind
    · subst hbad
      refine ⟨_, fun _ => rfl, fun s => ?_⟩
      split
      · split
        · exact .refl s
        · exact alertKept_sendReply _ (refuse .badKind s)
      · exact .refl s
    · obtain ⟨f, hexec, hinward⟩ := exec_inward hline hkind hbad
      exact ⟨f, hexec, fun s => (hinward s).toAlertKept⟩

/-! ## ALERT over a step -/

theorem alertFollows_iff_formed {s : State} (h : running s = true) : AlertFollowsTheAlarms s ↔ AlertFormed s := by
  simp only [AlertFollowsTheAlarms, AlertFormed, WordsBounded, alertLevel, h, Bool.true_and]

theorem alertFollows_held {s : State} (h : running s = false) :
    AlertFollowsTheAlarms s ↔ s.link.alertLow = false ∧ WordsBounded s := by
  simp only [AlertFollowsTheAlarms, WordsBounded, h, Bool.false_and]

theorem AlertFollowsTheAlarms.words {s : State} (h : AlertFollowsTheAlarms s) : WordsBounded s := h.2

theorem AlertKept.alertFollows {s t : State} (h : AlertKept s t) (hrun : Machine.running s = true)
    (hs : AlertFollowsTheAlarms s) : AlertFollowsTheAlarms t :=
  (alertFollows_iff_formed (h.running.trans hrun)).mpr (h.formed ((alertFollows_iff_formed hrun).mp hs))

/-- Power-on values latch no alarm, and the mask is the lower bits of its setting (R177, R178). -/
theorem alertFormed_poweredOn (w : WorkingSet) (src : WsSource) (s : State) : AlertFormed (poweredOn w src s) := by
  have hnone (v : Word16) : 0#16 &&& v = 0 := BitVec.zero_and
  refine ⟨?_, hnone _, alarmBits_bounded (defaultMask w)⟩
  change false = (0#16 &&& (defaultMask w &&& alarmBits) != 0)
  rw [hnone]
  rfl

theorem alertFormed_loadImage (s : State) : AlertFormed (loadImage s) := by
  unfold loadImage
  split
  · exact alertFormed_poweredOn _ _ s
  · exact alertFormed_raiseAlarm _ (alertFormed_poweredOn _ _ s)

theorem alertFollows_startUp {s : State} (h : s.resetIn = true) : AlertFollowsTheAlarms (startUp s) := by
  have hesd := (inward_protArrival [.esd] (loadImage s)).toAlertKept
  exact (alertFollows_iff_formed (hesd.running.trans ((running_loadImage s).trans h))).mpr
    (hesd.formed (alertFormed_loadImage s))

/-- Power applied while ALERT is released: start-up forms it, and RESET_IN low leaves it released. -/
theorem alertFollows_supplied {s : State} (hreleased : s.link.alertLow = false) (hwords : WordsBounded s) :
    AlertFollowsTheAlarms (if s.resetIn then startUp { s with power := true } else { s with power := true }) := by
  split
  · exact alertFollows_startUp ‹_›
  next hreset => exact (alertFollows_held (by simp [running, hreset])).mpr ⟨hreleased, hwords⟩

theorem alertFollows_powerOn {s : State} (hs : AlertFollowsTheAlarms s) : AlertFollowsTheAlarms (powerOn s) := by
  cases hpower : s.power with
  | true =>
    rw [powerOn, hpower]
    exact alertFollows_supplied (s := abandon s) rfl hs.words
  | false =>
    obtain ⟨hreleased, hwords⟩ := (alertFollows_held (by simp [running, hpower])).mp hs
    rw [powerOn, hpower]
    exact alertFollows_supplied hreleased hwords

theorem alertFollows_resetInRise {s : State} (hs : AlertFollowsTheAlarms s) : AlertFollowsTheAlarms (resetInRise s) := by
  unfold resetInRise
  split
  · exact hs
  next hreset =>
    split
    · exact alertFollows_startUp rfl
    next hpower =>
      have hheld := (alertFollows_held (by simp [running, hreset])).mp hs
      exact (alertFollows_held (by simp [running, hpower])).mpr hheld

/-- A change of ESD_IN evaluates ESD alone, and only while the part runs (R153). -/
theorem alertFollows_esdInChange {high : Bool} {s t : State} (h : exec (.esdInChange high) s = .next t)
    (hs : AlertFollowsTheAlarms s) : AlertFollowsTheAlarms t := by
  have hlevel : Inward s { s with esdIn := high } := .of_alert rfl
  cases hrun : running s with
  | true =>
    rw [exec_esdInChange high hrun, esdLevel] at h
    cases h
    split
    · exact hs
    · exact (hlevel.trans (inward_protArrival [.esd] _)).alertFollows hrun hs
  | false =>
    rw [exec, execEsdInChange, hrun] at h
    cases h
    exact hs

/-- Every command keeps ALERT formed while the part runs, and released while it does not. -/
theorem alertFollows_exec {c : Instr} {s t : State} (h : exec c s = .next t) (hs : AlertFollowsTheAlarms s) :
    AlertFollowsTheAlarms t := by
  cases hline : drivesALine c with
  | false =>
    obtain ⟨f, hf, hkept⟩ := exec_alertKept hline
    rw [hf] at h
    rcases whenRunning_cases h with ⟨hrun, rfl⟩ | ⟨-, rfl⟩
    · exact (hkept s).alertFollows hrun hs
    · exact hs
  | true =>
    cases c with
    | powerOn =>
      cases h
      exact alertFollows_powerOn hs
    | resetInRise =>
      cases h
      exact alertFollows_resetInRise hs
    | powerLoss =>
      cases h
      exact (alertFollows_held rfl).mpr ⟨rfl, hs.words⟩
    | resetInFall =>
      cases h
      exact (alertFollows_held (by simp [running])).mpr ⟨rfl, hs.words⟩
    | esdInChange high => exact alertFollows_esdInChange h hs
    | _ => cases hline

/-- Settles O59: a step is a command on the state with the rest of the queue, on which ALERT does not rest. -/
theorem alertLineFollowsTheAlarms : Obligations.AlertLineFollowsTheAlarms := by
  intro s t hs hstep
  unfold step at hstep
  split at hstep
  next c cs _ => exact alertFollows_exec (s := { s with pending := cs }) hstep hs
  next =>
    cases hstep
    exact hs

end Sys2Proof.Machine
end

section
/-! PROOF. The links (R170 to R174): how a receiver takes the bytes of a frame, from its header to its CRC, and what the frames
without an owner, the reads without arguments and the requests on alarms and trip list are answered. -/
namespace Sys2Proof.Machine

/-! ## The receiver (R170) -/

theorem setRx_setRx (l : Link) (r r' : Receiver) (s : State) : setRx l r' (setRx l r s) = setRx l r' s := by
  cases l <;> rfl

theorem setRx_of_get {l : Link} {r : Receiver} {s : State} (h : s.link.rx.get l = r) : setRx l r s = s := by
  subst h
  cases l <;> rfl

theorem feed_hunt_sof {l : Link} {s : State} (h : s.link.rx.get l = .hunt) : feed l sof s = setRx l .len s := by
  simp only [feed, h, if_true]

theorem feed_len (l : Link) (b : Byte) (s : State) : feed l b (setRx l .len s) = setRx l (.lenLow b) s := by
  simp only [feed, setRx_link, PerLink.get_set_self, setRx_setRx]

theorem feed_lenLow (l : Link) (hi lo : Byte) (s : State) : feed l lo (setRx l (.lenLow hi) s) =
    if goodLen (hi.toNat * 256 + lo.toNat) then setRx l (.data (hi.toNat * 256 + lo.toNat) []) s
    else frameError l (setRx l .hunt s) := by
  simp only [feed, setRx_link, PerLink.get_set_self, setRx_setRx]

theorem feed_data (l : Link) (b : Byte) (n : Nat) (taken : List Byte) (s : State) :
    feed l b (setRx l (.data n taken) s) =
      if taken.length + 1 = n + 2 then frameComplete l n (taken ++ [b]) (setRx l .hunt s)
      else setRx l (.data n (taken ++ [b])) s := by
  simp only [feed, setRx_link, PerLink.get_set_self, setRx_setRx]

/-- SOF and LEN taken by a hunting receiver: a good LEN opens the frame, any other is a frame error (R170). -/
theorem feedAll_header {l : Link} {s : State} (hi lo : Byte) (h : s.link.rx.get l = .hunt) :
    feedAll l [sof, hi, lo] s =
      if goodLen (hi.toNat * 256 + lo.toNat) then setRx l (.data (hi.toNat * 256 + lo.toNat) []) s
      else frameError l s := by
  simp only [feedAll, feed_hunt_sof h, feed_len, feed_lenLow, setRx_of_get h]

/-- The bytes that LEN still calls for complete the frame, and the receiver hunts again (R170). -/
theorem feedAll_data (l : Link) (n : Nat) (taken bs : List Byte) (s : State) (hbs : bs ≠ [])
    (hlen : taken.length + bs.length = n + 2) :
    feedAll l bs (setRx l (.data n taken) s) = frameComplete l n (taken ++ bs) (setRx l .hunt s) := by
  induction bs generalizing taken with
  | nil => exact absurd rfl hbs
  | cons b bs ih =>
    rw [feedAll, feed_data]
    cases bs with
    | nil => exact if_pos hlen
    | cons b' bs =>
      simp only [List.length_cons] at hlen
      have hrest := ih (taken ++ [b]) (List.cons_ne_nil b' bs) (by
        simp only [List.length_append, List.length_cons, List.length_nil]
        omega)
      rw [if_neg (by omega), hrest, List.append_assoc, List.singleton_append]

/-- The two bytes of a count make up the count (10.1). -/
theorem be2n_eq {n : Nat} (h : n < 65536) : ∃ hi lo : Byte, be2n n = [hi, lo] ∧ hi.toNat * 256 + lo.toNat = n :=
  ⟨_, _, rfl, Int.ofNat_inj.mp (u16At_be2 (v := n) (by omega) (by omega))⟩

theorem goodLen_iff (n : Nat) : goodLen n = true ↔ 2 ≤ n ∧ n ≤ 510 := by
  simp only [goodLen, Bool.and_eq_true, decide_eq_true_eq]

/-- The bytes of a frame taken by a hunting receiver: its CRC decides between its queue and a frame error (R170, R171). -/
theorem feedAll_frame {l : Link} {s : State} {p crc : List Byte} (h : s.link.rx.get l = .hunt) (h2 : 2 ≤ p.length)
    (h510 : p.length ≤ 510) (hcrc : crc.length = 2) :
    feedAll l (sof :: (be2n p.length ++ p) ++ crc) s =
      if crc = be2n (crc16 (be2n p.length ++ p)).toNat then enqueue l (frameOf p) s else frameError l s := by
  obtain ⟨hi, lo, hbytes, hn⟩ := be2n_eq (n := p.length) (by omega)
  have hsplit : sof :: (be2n p.length ++ p) ++ crc = [sof, hi, lo] ++ (p ++ crc) := by rw [hbytes]; simp
  have hdata := feedAll_data l p.length [] (p ++ crc) s (by simp [List.ne_nil_of_length_pos (show 0 < p.length by omega)])
    (by simp [hcrc])
  rw [hsplit, feedAll_append, feedAll_header hi lo h, hn, if_pos ((goodLen_iff _).mpr ⟨h2, h510⟩), hdata, List.nil_append,
    frameComplete, List.drop_left, List.take_left, setRx_of_get h]

/-- A frame's KIND, TAG and BODY, the bytes that LEN counts (10.1). -/
def Frame.payload (f : Frame) : List Byte := f.kind :: f.tag :: f.body

@[simp] theorem Frame.payload_length (f : Frame) : f.payload.length = f.body.length + 2 := rfl

/-- The bytes that the CRC is formed over, with any two bytes after them, taken by a hunting receiver (R170, R171). -/
theorem feedAll_covered {l : Link} {s : State} (f : Frame) {crc : List Byte} (h : s.link.rx.get l = .hunt)
    (hbody : f.body.length ≤ 508) (hcrc : crc.length = 2) : feedAll l (sof :: f.covered ++ crc) s =
      if crc = be2n (crc16 f.covered).toNat then enqueue l f s else frameError l s :=
  feedAll_frame (p := f.payload) h (by simp) (by simpa using hbody) hcrc

/-- Settles O7: the CRC on the wire is the frame's own, so the frame goes to its queue. -/
theorem wireFrameIsAccepted : Obligations.WireFrameIsAccepted := by
  intro l f s hrun hhunt hbody c
  have hfed : feedAll l f.wire s = enqueue l f s := (feedAll_covered f hhunt hbody rfl).trans (if_pos rfl)
  have hexec : exec (.linkFrameRx l f.wire) s = .next (enqueue l f s) := (whenRunning_of hrun).trans (congrArg _ hfed)
  rw [hexec]
  cases l <;> rfl

/-! ## Gaps -/

theorem gap_hunt {l : Link} {s : State} (h : s.link.rx.get l = .hunt) : gap l s = s := if_pos h

/-- A gap inside a frame discards it and is counted (R170, R173). -/
theorem gap_inside {l : Link} {s : State} (h : s.link.rx.get l ≠ .hunt) :
    gap l s = setCounters l { s.link.counters.get l with gapDiscards := satAdd (s.link.counters.get l).gapDiscards 1 }
      (setRx l .hunt s) := if_neg h

theorem exec_frameGapTimeout (l : Link) (bs : List Byte) {s : State} (hrun : running s = true) :
    exec (.frameGapTimeout l bs) s = .next (feedAll l bs (gap l s)) :=
  whenRunning_of (f := fun s => feedAll l bs (gap l s)) hrun

/-- Settles O8: each broken frame is the receiver's frame error, and a gap leaves a hunting receiver. -/
theorem brokenFramesAreDiscarded : Obligations.BrokenFramesAreDiscarded := by
  intro l s hrun c erred
  refine ⟨fun hhunt => ⟨fun f crc hbody hcrc hbad => ?crc, fun hi lo => ?len, ?gap, fun bs => ?after⟩,
    fun hinside => ?inside⟩
  case crc =>
    have hfed := (feedAll_covered f hhunt hbody hcrc).trans (if_neg hbad)
    exact (whenRunning_of hrun).trans (congrArg _ hfed)
  case len =>
    have hexec : exec (.sofDetected l hi lo) s = .next (feedAll l [sof, hi, lo] s) := whenRunning_of hrun
    rw [hexec, feedAll_header hi lo hhunt]
    simp only [goodLen_iff]
    rfl
  case gap => rw [exec_frameGapTimeout l [] hrun, gap_hunt hhunt, feedAll]
  case after =>
    rw [exec_frameGapTimeout l bs hrun, gap_hunt hhunt]
    exact (whenRunning_of hrun).symm
  case inside =>
    intro discarded
    have hgap : gap l s = discarded := gap_inside hinside
    have hrun' : running discarded = true := hrun
    refine ⟨?_, fun bs => ?_⟩
    · rw [exec_frameGapTimeout l [] hrun, hgap, feedAll]
    · rw [exec_frameGapTimeout l bs hrun, hgap]
      exact (whenRunning_of hrun').symm

/-! ## Frames without an owner -/

theorem isGoodScan_iff (f : Frame) : isGoodScan f = true ↔ f.kind = 0x50 ∧ f.body.length = 81 := by
  simp only [isGoodScan, Bool.and_eq_true, beq_iff_eq]

/-- Settles O9: the field frame is a frame error on the rest of its queue, the host frame is refused BAD_KIND. -/
theorem unownedFramesLeaveTheirQueues : Obligations.UnownedFramesLeaveTheirQueues := by
  refine ⟨fun s f fs hrun hqueue hscan => ?field, fun s f hasked hkind => ?host⟩
  case field =>
    have hbad : ¬ isGoodScan f = true := fun hgood => hscan ((isGoodScan_iff f).mp hgood)
    rw [exec, execFieldFrameDiscard, whenRunning_of hrun, hqueue]
    exact congrArg _ (if_neg hbad)
  case host =>
    obtain ⟨hrun, hhead, -⟩ := hasked
    obtain ⟨fs, hqueue⟩ := List.head?_eq_some_iff.mp hhead
    have hunknown : ¬ requestKinds.contains f.kind = true := fun hmem => hkind (List.contains_iff_mem.mp hmem)
    rw [exec, execHostBadKind, whenRunning_of hrun, hqueue]
    refine congrArg _ ((if_neg hunknown).trans ?_)
    rw [sendReply, answered, ← List.drop_one]
    rfl

/-! ## Requests -/

/-- A read without arguments answers its fields, and refuses a body (10.4). -/
theorem whenRunning_read {k : Byte} {fields : State → List Byte} {s : State} {f : Frame} (h : Asked k f s) :
    whenRunning (answer k (bare (readOnly fields))) s =
      .next (answered f (if f.body = [] then 0 :: fields s else [4]) s) := by
  refine whenRunning_answer_of_asked h ?_
  unfold bare
  split <;> rfl

/-- Settles O10: the nine commands are the bare reads of their kinds and fields. -/
theorem readsChangeNothing : Obligations.ReadsChangeNothing := by
  simp only [Obligations.ReadsChangeNothing, List.forall_mem_cons]
  exact ⟨fun _ _ => whenRunning_read, fun _ _ => whenRunning_read, fun _ _ => whenRunning_read,
    fun _ _ => whenRunning_read, fun _ _ => whenRunning_read, fun _ _ => whenRunning_read, fun _ _ => whenRunning_read,
    fun _ _ => whenRunning_read, fun _ _ => whenRunning_read, nofun⟩

/-- The word a two-byte body carries is its bytes, the first the high one (10.1). -/
theorem wordAt_pair (hi lo : Byte) : wordAt [hi, lo] = hi ++ lo := by
  have hvalue : wordAt [hi, lo] = BitVec.ofInt 16 ((hi.toNat * 256 + lo.toNat : Nat) : Int) := rfl
  have hlo : lo.toNat < 2 ^ 8 := lo.isLt
  rw [hvalue, BitVec.ofInt_natCast]
  apply BitVec.eq_of_toNat_eq
  rw [BitVec.toNat_append, ← Nat.shiftLeft_add_eq_or_of_lt hlo, Nat.shiftLeft_eq, BitVec.toNat_ofNat]
  exact Nat.mod_eq_of_lt (by omega)

/-- Settles O12: each request worked on a body of its length. -/
theorem alarmAndTripRequestsAct : Obligations.AlarmAndTripRequestsAct := by
  intro s f hi lo w
  have hword : wordAt [hi, lo] = w := wordAt_pair hi lo
  refine ⟨fun hasked hbody => ?clear, fun hasked hbody => ?mask, fun hasked hbody => ?trips⟩
  case clear =>
    intro a
    refine whenRunning_answer_of_asked hasked ?_
    rw [hbody, workAlarmClear, if_neg (by simp), hword]
    rfl
  case mask =>
    intro m
    refine whenRunning_answer_of_asked hasked ?_
    rw [hbody, workAlarmMaskSet, if_neg (by simp), hword]
    rfl
  case trips =>
    refine whenRunning_answer_of_asked hasked ?_
    rw [hbody, bare, if_pos rfl]
    rfl

end Sys2Proof.Machine
end

section
/-! PROOF. The step (log entry 1): what it answers while commands wait. -/
namespace Sys2Proof.Machine

/-- Settles O1: a queue with a command at its front meets the first branch of the step. -/
theorem stepRunsTheFrontCommand : Obligations.StepRunsTheFrontCommand := by
  intro s c cs hpending
  rw [step, hpending]

end Sys2Proof.Machine
end
